-- ==== Sys2Proof/Word.lean ====
section
/-! DEFINITION. The word types of the block (00_scope.md R7, R10; 30_encoding.md R100). -/

namespace Sys2Proof

/-- A bus-visible register byte, or a window offset (R7: REG_WIDTH and ADDR_WIDTH are 8). -/
abbrev Byte := BitVec 8

/-- An attenuation factor (R7: ATTEN_WIDTH is 4). -/
abbrev Nibble := BitVec 4

/-- A shift register value (R7: SR_WIDTH is 12). -/
abbrev SrWord := BitVec 12

/-- A signed 16-bit PCM sample, two's complement (R10, R184). -/
abbrev Sample := BitVec 16

/-- The event word: op in bits 18:16, addr in 15:8, data in 7:0 (R100). -/
abbrev EventWord := BitVec 19

/-- A channel number, the 2-bit field of an offset read as an unsigned number (R105). -/
abbrev ChanIx := BitVec 2

/-- Apply f to each of four things, one per channel; written out so that it evaluates. -/
def mapFour {α β : Type} (f : α → β) (v : Vector α 4) : Vector β 4 := #v[f v[0], f v[1], f v[2], f v[3]]

end Sys2Proof
end

