-- ==== Sys2Proof/Syntax.lean ====
section
/-! DEFINITION. What the block accepts: one constructor of Instr per row of opcode_table.json (30_encoding.md
R107), and the places of the register window (20_memory.md R72). -/

namespace Sys2Proof

/-- The eight registers of a channel's block, by index (R72). ShiftRegister is two of them (R76). -/
inductive ChannelReg where
  | volume | feedbackEnable | output | shiftLow | shiftHigh | backupValue | control | counter
  deriving DecidableEq, Repr

/-- The side of an attenuation register (R74). -/
inductive Side where
  | left | right
  deriving DecidableEq, Repr

/-- The seven stretches of unmapped offsets that the opcode table has a row for (R107), each named after its
lowest offset. -/
inductive Gap where
  | from28 | from31 | from32 | from34 | from38 | from40 | from80
  deriving DecidableEq, Repr

/-- A place of the register window: "every offset falls in exactly one row" (R72). -/
inductive Location where
  | channel (c : ChanIx) (r : ChannelReg)
  | atten (c : ChanIx) (side : Side)
  | masterVolume
  | unmapped (g : Gap)
  deriving DecidableEq, Repr

/-- The operands of a WRITE at an unmapped offset: "a, one of those offsets, and d (ignored)" (R231). -/
structure UnmappedWrite where
  offset : Byte
  data : Byte
  deriving DecidableEq, Repr

/-- The events, one constructor per row of the opcode table (R107). `c` is the channel, `d` the data byte,
`a` the offset of an unmapped access, `b` the stereo bit. -/
inductive Instr where
  /-- RD_VOL: read channel c Volume. -/
  | rdVol (c : ChanIx)
  /-- RD_FBEN: read channel c FeedbackEnable. -/
  | rdFben (c : ChanIx)
  /-- RD_OUT: read channel c Output. -/
  | rdOut (c : ChanIx)
  /-- RD_SRLO: read channel c ShiftRegister[7:0]. -/
  | rdSrlo (c : ChanIx)
  /-- RD_SRHI: read channel c ShiftRegister[11:8]. -/
  | rdSrhi (c : ChanIx)
  /-- RD_BKUP: read channel c BackupValue. -/
  | rdBkup (c : ChanIx)
  /-- RD_CTL: read channel c Control. -/
  | rdCtl (c : ChanIx)
  /-- RD_CNT: read channel c Counter. -/
  | rdCnt (c : ChanIx)
  /-- RD_ATTL: read channel c LeftAtten. -/
  | rdAttl (c : ChanIx)
  /-- RD_ATTR: read channel c RightAtten. -/
  | rdAttr (c : ChanIx)
  /-- RD_MVOL: read MasterVolume. -/
  | rdMvol
  /-- RD_UNMAPPED_28: read the unmapped offset a, 0x28 to 0x2F. -/
  | rdUnmapped28 (a : Byte)
  /-- RD_UNMAPPED_31: read the unmapped offset a, 0x31 to 0x31. -/
  | rdUnmapped31 (a : Byte)
  /-- RD_UNMAPPED_32: read the unmapped offset a, 0x32 to 0x33. -/
  | rdUnmapped32 (a : Byte)
  /-- RD_UNMAPPED_34: read the unmapped offset a, 0x34 to 0x37. -/
  | rdUnmapped34 (a : Byte)
  /-- RD_UNMAPPED_38: read the unmapped offset a, 0x38 to 0x3F. -/
  | rdUnmapped38 (a : Byte)
  /-- RD_UNMAPPED_40: read the unmapped offset a, 0x40 to 0x7F. -/
  | rdUnmapped40 (a : Byte)
  /-- RD_UNMAPPED_80: read the unmapped offset a, 0x80 to 0xFF. -/
  | rdUnmapped80 (a : Byte)
  /-- WR_VOL: write channel c Volume. -/
  | wrVol (c : ChanIx) (d : Byte)
  /-- WR_FBEN: write channel c FeedbackEnable. -/
  | wrFben (c : ChanIx) (d : Byte)
  /-- WR_OUT: write channel c Output. -/
  | wrOut (c : ChanIx) (d : Byte)
  /-- WR_SRLO: write channel c ShiftRegister[7:0]. -/
  | wrSrlo (c : ChanIx) (d : Byte)
  /-- WR_SRHI: write channel c ShiftRegister[11:8]. -/
  | wrSrhi (c : ChanIx) (d : Byte)
  /-- WR_BKUP: write channel c BackupValue. -/
  | wrBkup (c : ChanIx) (d : Byte)
  /-- WR_CTL: write channel c Control. -/
  | wrCtl (c : ChanIx) (d : Byte)
  /-- WR_CNT: write channel c Counter. -/
  | wrCnt (c : ChanIx) (d : Byte)
  /-- WR_ATTL: write channel c LeftAtten. -/
  | wrAttl (c : ChanIx) (d : Byte)
  /-- WR_ATTR: write channel c RightAtten. -/
  | wrAttr (c : ChanIx) (d : Byte)
  /-- WR_MVOL: write MasterVolume. -/
  | wrMvol (d : Byte)
  /-- WR_UNMAPPED_28: write w.data at the unmapped offset w.offset, 0x28 to 0x2F; the data is ignored. -/
  | wrUnmapped28 (w : UnmappedWrite)
  /-- WR_UNMAPPED_31: write w.data at the unmapped offset w.offset, 0x31 to 0x31; the data is ignored. -/
  | wrUnmapped31 (w : UnmappedWrite)
  /-- WR_UNMAPPED_32: write w.data at the unmapped offset w.offset, 0x32 to 0x33; the data is ignored. -/
  | wrUnmapped32 (w : UnmappedWrite)
  /-- WR_UNMAPPED_34: write w.data at the unmapped offset w.offset, 0x34 to 0x37; the data is ignored. -/
  | wrUnmapped34 (w : UnmappedWrite)
  /-- WR_UNMAPPED_38: write w.data at the unmapped offset w.offset, 0x38 to 0x3F; the data is ignored. -/
  | wrUnmapped38 (w : UnmappedWrite)
  /-- WR_UNMAPPED_40: write w.data at the unmapped offset w.offset, 0x40 to 0x7F; the data is ignored. -/
  | wrUnmapped40 (w : UnmappedWrite)
  /-- WR_UNMAPPED_80: write w.data at the unmapped offset w.offset, 0x80 to 0xFF; the data is ignored. -/
  | wrUnmapped80 (w : UnmappedWrite)
  /-- TICK: one master-clock tick. -/
  | tick
  /-- FRAME_END: the end-of-video-frame strobe. -/
  | frameEnd
  /-- SET_STEREO: the external stereo configuration. -/
  | setStereo (b : Bool)
  /-- RESET: cold reset. -/
  | reset
  /-- RESERVED_6: op 0b110. -/
  | reserved6
  /-- RESERVED_7: op 0b111. -/
  | reserved7
  deriving DecidableEq, Repr

end Sys2Proof
end

