-- ==== Sys2Proof/WellFormed.lean ====
section
/-! DEFINITION. Which instructions are well formed: an unmapped access carries an offset of its own row
(30_encoding.md R107); every other operand is as wide as its field, so nothing else can be ill formed. -/

namespace Sys2Proof

/-- The offset `a` lies in `lo` to `hi`, both included. -/
def offsetIn (lo hi a : Byte) : Bool := decide (lo ≤ a) && decide (a ≤ hi)

/-- The check on each instruction. -/
def Instr.wellFormed : Instr → Bool
  | .rdVol _ => true
  | .rdFben _ => true
  | .rdOut _ => true
  | .rdSrlo _ => true
  | .rdSrhi _ => true
  | .rdBkup _ => true
  | .rdCtl _ => true
  | .rdCnt _ => true
  | .rdAttl _ => true
  | .rdAttr _ => true
  | .rdMvol => true
  | .rdUnmapped28 a => offsetIn 0x28 0x2F a
  | .rdUnmapped31 a => offsetIn 0x31 0x31 a
  | .rdUnmapped32 a => offsetIn 0x32 0x33 a
  | .rdUnmapped34 a => offsetIn 0x34 0x37 a
  | .rdUnmapped38 a => offsetIn 0x38 0x3F a
  | .rdUnmapped40 a => offsetIn 0x40 0x7F a
  | .rdUnmapped80 a => offsetIn 0x80 0xFF a
  | .wrVol _ _ => true
  | .wrFben _ _ => true
  | .wrOut _ _ => true
  | .wrSrlo _ _ => true
  | .wrSrhi _ _ => true
  | .wrBkup _ _ => true
  | .wrCtl _ _ => true
  | .wrCnt _ _ => true
  | .wrAttl _ _ => true
  | .wrAttr _ _ => true
  | .wrMvol _ => true
  | .wrUnmapped28 w => offsetIn 0x28 0x2F w.offset
  | .wrUnmapped31 w => offsetIn 0x31 0x31 w.offset
  | .wrUnmapped32 w => offsetIn 0x32 0x33 w.offset
  | .wrUnmapped34 w => offsetIn 0x34 0x37 w.offset
  | .wrUnmapped38 w => offsetIn 0x38 0x3F w.offset
  | .wrUnmapped40 w => offsetIn 0x40 0x7F w.offset
  | .wrUnmapped80 w => offsetIn 0x80 0xFF w.offset
  | .tick => true
  | .frameEnd => true
  | .setStereo _ => true
  | .reset => true
  | .reserved6 => true
  | .reserved7 => true

end Sys2Proof
end

