-- ==== Sys2Proof/Decode.lean ====
section
/-! DEFINITION. Decoding the 19-bit event word (30_encoding.md R100 to R107), and after it the encoder and the
rows of the opcode table. -/

namespace Sys2Proof

/-! ### The word's fields (R100) -/

/-- Bits 18:16. -/
def opField (w : EventWord) : BitVec 3 := w.extractLsb' 16 3

/-- Bits 15:8. -/
def addrField (w : EventWord) : Byte := w.extractLsb' 8 8

/-- Bits 7:0. -/
def dataField (w : EventWord) : Byte := w.extractLsb' 0 8

/-! ### The address map (R72 to R74) -/

/-- The register of index i in a channel's block (R72). -/
def channelRegOf (i : BitVec 3) : ChannelReg :=
  match i.toNat with
  | 0 => .volume
  | 1 => .feedbackEnable
  | 2 => .output
  | 3 => .shiftLow
  | 4 => .shiftHigh
  | 5 => .backupValue
  | 6 => .control
  | _ => .counter  -- a 3-bit index: only 7 is left

/-- The place an offset selects: c = a[4:3] and i = a[2:0] below 0x20 (R73); c = a[2:1] and the side a[0] in
0x20 to 0x27 (R74); 0x30 is MasterVolume; the rest is unmapped (R72). -/
def locate (a : Byte) : Location :=
  if a < 0x20#8 then .channel (a.extractLsb' 3 2) (channelRegOf (a.extractLsb' 0 3))
  else if a < 0x28#8 then .atten (a.extractLsb' 1 2) (if a.getLsbD 0 then .right else .left)
  else if a < 0x30#8 then .unmapped .from28
  else if a = 0x30#8 then .masterVolume
  else if a = 0x31#8 then .unmapped .from31
  else if a < 0x34#8 then .unmapped .from32
  else if a < 0x38#8 then .unmapped .from34
  else if a < 0x40#8 then .unmapped .from38
  else if a < 0x80#8 then .unmapped .from40
  else .unmapped .from80

/-! ### Decoding (R101, R107) -/

/-- A READ at offset a; its data field is ignored (R102). -/
def decodeRead (a : Byte) : Instr :=
  match locate a with
  | .channel c .volume => .rdVol c
  | .channel c .feedbackEnable => .rdFben c
  | .channel c .output => .rdOut c
  | .channel c .shiftLow => .rdSrlo c
  | .channel c .shiftHigh => .rdSrhi c
  | .channel c .backupValue => .rdBkup c
  | .channel c .control => .rdCtl c
  | .channel c .counter => .rdCnt c
  | .atten c .left => .rdAttl c
  | .atten c .right => .rdAttr c
  | .masterVolume => .rdMvol
  | .unmapped .from28 => .rdUnmapped28 a
  | .unmapped .from31 => .rdUnmapped31 a
  | .unmapped .from32 => .rdUnmapped32 a
  | .unmapped .from34 => .rdUnmapped34 a
  | .unmapped .from38 => .rdUnmapped38 a
  | .unmapped .from40 => .rdUnmapped40 a
  | .unmapped .from80 => .rdUnmapped80 a

/-- A WRITE of d at offset a. At an unmapped offset d is an operand that the meaning ignores (R231): the `x` of
R107 (log 28). -/
def decodeWrite (a d : Byte) : Instr :=
  match locate a with
  | .channel c .volume => .wrVol c d
  | .channel c .feedbackEnable => .wrFben c d
  | .channel c .output => .wrOut c d
  | .channel c .shiftLow => .wrSrlo c d
  | .channel c .shiftHigh => .wrSrhi c d
  | .channel c .backupValue => .wrBkup c d
  | .channel c .control => .wrCtl c d
  | .channel c .counter => .wrCnt c d
  | .atten c .left => .wrAttl c d
  | .atten c .right => .wrAttr c d
  | .masterVolume => .wrMvol d
  | .unmapped .from28 => .wrUnmapped28 ⟨a, d⟩
  | .unmapped .from31 => .wrUnmapped31 ⟨a, d⟩
  | .unmapped .from32 => .wrUnmapped32 ⟨a, d⟩
  | .unmapped .from34 => .wrUnmapped34 ⟨a, d⟩
  | .unmapped .from38 => .wrUnmapped38 ⟨a, d⟩
  | .unmapped .from40 => .wrUnmapped40 ⟨a, d⟩
  | .unmapped .from80 => .wrUnmapped80 ⟨a, d⟩

/-- The event of a word: "Every 19-bit word matches exactly one row" (R107), so this is total. The two
reserved ops become constructors of their own, whose meaning refuses them by name (R103). -/
def decode (w : EventWord) : Instr :=
  match (opField w).toNat with
  | 0 => decodeRead (addrField w)
  | 1 => decodeWrite (addrField w) (dataField w)
  | 2 => .tick
  | 3 => .frameEnd
  | 4 => .setStereo ((dataField w).getLsbD 0)
  | 5 => .reset
  | 6 => .reserved6
  | _ => .reserved7  -- a 3-bit op: only 7 is left

/-- The event word whose bits, numbered as the table numbers them, are w; bits from nbits up are 0. A number
that needs more than 19 bits is no event word (R100; log 18). -/
def eventWordOf (nbits w : Nat) : Option EventWord :=
  if w % 2 ^ nbits < 2 ^ 19 then some (BitVec.ofNat 19 (w % 2 ^ nbits)) else none

/-- The instruction the decoder reads from the bits w of a table row. -/
def decodeTableWord (nbits w : Nat) : Option Instr := (eventWordOf nbits w).map decode

/-! ### Encoding (R100, R107, R109): ignored bits are written as 0 (R102) -/

/-- The three fields in their places. -/
def packWord (op : BitVec 3) (a d : Byte) : EventWord := op ++ a ++ d

/-- Offset 8c + i (R73). -/
def channelOffset (c : ChanIx) (i : BitVec 3) : Byte := 0b000#3 ++ c ++ i

/-- Offset 0x20 + 2c for the left side, 0x21 + 2c for the right (R74). -/
def attenOffset (c : ChanIx) (side : BitVec 1) : Byte := 0b00100#5 ++ c ++ side

/-- The word of a READ. -/
def readWord (a : Byte) : EventWord := packWord 0b000 a 0

/-- The word of a WRITE. -/
def writeWord (a d : Byte) : EventWord := packWord 0b001 a d

/-- The word of a well-formed instruction, in the canonical spelling of R109: a WRITE of d at a is 0x1aadd at every
offset, the unmapped ones among them (log 28). -/
def encode : Instr → EventWord
  | .rdVol c => readWord (channelOffset c 0b000)
  | .rdFben c => readWord (channelOffset c 0b001)
  | .rdOut c => readWord (channelOffset c 0b010)
  | .rdSrlo c => readWord (channelOffset c 0b011)
  | .rdSrhi c => readWord (channelOffset c 0b100)
  | .rdBkup c => readWord (channelOffset c 0b101)
  | .rdCtl c => readWord (channelOffset c 0b110)
  | .rdCnt c => readWord (channelOffset c 0b111)
  | .rdAttl c => readWord (attenOffset c 0)
  | .rdAttr c => readWord (attenOffset c 1)
  | .rdMvol => readWord 0x30
  | .rdUnmapped28 a => readWord a
  | .rdUnmapped31 a => readWord a
  | .rdUnmapped32 a => readWord a
  | .rdUnmapped34 a => readWord a
  | .rdUnmapped38 a => readWord a
  | .rdUnmapped40 a => readWord a
  | .rdUnmapped80 a => readWord a
  | .wrVol c d => writeWord (channelOffset c 0b000) d
  | .wrFben c d => writeWord (channelOffset c 0b001) d
  | .wrOut c d => writeWord (channelOffset c 0b010) d
  | .wrSrlo c d => writeWord (channelOffset c 0b011) d
  | .wrSrhi c d => writeWord (channelOffset c 0b100) d
  | .wrBkup c d => writeWord (channelOffset c 0b101) d
  | .wrCtl c d => writeWord (channelOffset c 0b110) d
  | .wrCnt c d => writeWord (channelOffset c 0b111) d
  | .wrAttl c d => writeWord (attenOffset c 0) d
  | .wrAttr c d => writeWord (attenOffset c 1) d
  | .wrMvol d => writeWord 0x30 d
  | .wrUnmapped28 w => writeWord w.offset w.data
  | .wrUnmapped31 w => writeWord w.offset w.data
  | .wrUnmapped32 w => writeWord w.offset w.data
  | .wrUnmapped34 w => writeWord w.offset w.data
  | .wrUnmapped38 w => writeWord w.offset w.data
  | .wrUnmapped40 w => writeWord w.offset w.data
  | .wrUnmapped80 w => writeWord w.offset w.data
  | .tick => packWord 0b010 0 0
  | .frameEnd => packWord 0b011 0 0
  | .setStereo b => packWord 0b100 0 (if b then 1 else 0)
  | .reset => packWord 0b101 0 0
  | .reserved6 => packWord 0b110 0 0
  | .reserved7 => packWord 0b111 0 0

/-! ### The opcode table (opcode_table.json): a word w selects a row when w AND mask = match (R107) -/

/-- One row: its mask and its match. -/
structure OpcodeRow where
  mask : EventWord
  value : EventWord
  deriving DecidableEq, Repr

/-- The word selects the row. -/
def OpcodeRow.selects (r : OpcodeRow) (w : EventWord) : Bool := w &&& r.mask == r.value

/-- The row of each instruction, as opcode_table.json prints its mask and match. -/
def opcodeRow : Instr → OpcodeRow
  | .rdVol _ => ⟨0x7e700, 0x0⟩
  | .rdFben _ => ⟨0x7e700, 0x100⟩
  | .rdOut _ => ⟨0x7e700, 0x200⟩
  | .rdSrlo _ => ⟨0x7e700, 0x300⟩
  | .rdSrhi _ => ⟨0x7e700, 0x400⟩
  | .rdBkup _ => ⟨0x7e700, 0x500⟩
  | .rdCtl _ => ⟨0x7e700, 0x600⟩
  | .rdCnt _ => ⟨0x7e700, 0x700⟩
  | .rdAttl _ => ⟨0x7f900, 0x2000⟩
  | .rdAttr _ => ⟨0x7f900, 0x2100⟩
  | .rdMvol => ⟨0x7ff00, 0x3000⟩
  | .rdUnmapped28 _ => ⟨0x7f800, 0x2800⟩
  | .rdUnmapped31 _ => ⟨0x7ff00, 0x3100⟩
  | .rdUnmapped32 _ => ⟨0x7fe00, 0x3200⟩
  | .rdUnmapped34 _ => ⟨0x7fc00, 0x3400⟩
  | .rdUnmapped38 _ => ⟨0x7f800, 0x3800⟩
  | .rdUnmapped40 _ => ⟨0x7c000, 0x4000⟩
  | .rdUnmapped80 _ => ⟨0x78000, 0x8000⟩
  | .wrVol _ _ => ⟨0x7e700, 0x10000⟩
  | .wrFben _ _ => ⟨0x7e700, 0x10100⟩
  | .wrOut _ _ => ⟨0x7e700, 0x10200⟩
  | .wrSrlo _ _ => ⟨0x7e700, 0x10300⟩
  | .wrSrhi _ _ => ⟨0x7e700, 0x10400⟩
  | .wrBkup _ _ => ⟨0x7e700, 0x10500⟩
  | .wrCtl _ _ => ⟨0x7e700, 0x10600⟩
  | .wrCnt _ _ => ⟨0x7e700, 0x10700⟩
  | .wrAttl _ _ => ⟨0x7f900, 0x12000⟩
  | .wrAttr _ _ => ⟨0x7f900, 0x12100⟩
  | .wrMvol _ => ⟨0x7ff00, 0x13000⟩
  | .wrUnmapped28 _ => ⟨0x7f800, 0x12800⟩
  | .wrUnmapped31 _ => ⟨0x7ff00, 0x13100⟩
  | .wrUnmapped32 _ => ⟨0x7fe00, 0x13200⟩
  | .wrUnmapped34 _ => ⟨0x7fc00, 0x13400⟩
  | .wrUnmapped38 _ => ⟨0x7f800, 0x13800⟩
  | .wrUnmapped40 _ => ⟨0x7c000, 0x14000⟩
  | .wrUnmapped80 _ => ⟨0x78000, 0x18000⟩
  | .tick => ⟨0x70000, 0x20000⟩
  | .frameEnd => ⟨0x70000, 0x30000⟩
  | .setStereo _ => ⟨0x70000, 0x40000⟩
  | .reset => ⟨0x70000, 0x50000⟩
  | .reserved6 => ⟨0x70000, 0x60000⟩
  | .reserved7 => ⟨0x70000, 0x70000⟩

/-- The 42 rows, in the table's order. -/
def opcodeRows : List OpcodeRow :=
  [opcodeRow (.rdVol 0), opcodeRow (.rdFben 0), opcodeRow (.rdOut 0), opcodeRow (.rdSrlo 0), opcodeRow (.rdSrhi 0), opcodeRow (.rdBkup 0)] ++
  [opcodeRow (.rdCtl 0), opcodeRow (.rdCnt 0), opcodeRow (.rdAttl 0), opcodeRow (.rdAttr 0), opcodeRow .rdMvol, opcodeRow (.rdUnmapped28 0)] ++
  [opcodeRow (.rdUnmapped31 0), opcodeRow (.rdUnmapped32 0), opcodeRow (.rdUnmapped34 0), opcodeRow (.rdUnmapped38 0), opcodeRow (.rdUnmapped40 0), opcodeRow (.rdUnmapped80 0)] ++
  [opcodeRow (.wrVol 0 0), opcodeRow (.wrFben 0 0), opcodeRow (.wrOut 0 0), opcodeRow (.wrSrlo 0 0), opcodeRow (.wrSrhi 0 0), opcodeRow (.wrBkup 0 0)] ++
  [opcodeRow (.wrCtl 0 0), opcodeRow (.wrCnt 0 0), opcodeRow (.wrAttl 0 0), opcodeRow (.wrAttr 0 0), opcodeRow (.wrMvol 0), opcodeRow (.wrUnmapped28 ⟨0, 0⟩)] ++
  [opcodeRow (.wrUnmapped31 ⟨0, 0⟩), opcodeRow (.wrUnmapped32 ⟨0, 0⟩), opcodeRow (.wrUnmapped34 ⟨0, 0⟩), opcodeRow (.wrUnmapped38 ⟨0, 0⟩), opcodeRow (.wrUnmapped40 ⟨0, 0⟩), opcodeRow (.wrUnmapped80 ⟨0, 0⟩)] ++
  [opcodeRow .tick, opcodeRow .frameEnd, opcodeRow (.setStereo false), opcodeRow .reset, opcodeRow .reserved6, opcodeRow .reserved7]

end Sys2Proof
end

