-- ==== Sys2Proof/Config.lean ====
section
/-! DEFINITION. The open parameters of the block (00_scope.md R8) and, for the machine that State.reset
describes, constants without a body in their place; and the one value the spec leaves open in a step. The fixed parameters of R7 are numerals where the rules
that use them stand. -/

namespace Sys2Proof

/-- The open parameters, which "a model takes as an argument" (R8). State carries one of these, so a
statement about every state is a statement about every choice of them (log 6). -/
structure Params where
  /-- SAMPLE_DIV: TICKs between two stereo frames; an integer >= 1. -/
  sampleDiv : Nat
  /-- BUF_CAP: capacity of the sample buffer, in stereo frames; an integer >= 1. -/
  bufCap : Nat
  /-- SAMPLE_RATE: passed to the sink unchanged; unsigned 32 bits. -/
  sampleRate : BitVec 32
  /-- LFSR_SEED[c]: a number here, so that a value outside 1..4095 can be refused (R301). -/
  lfsrSeed : Vector Nat 4
  /-- STEREO_INIT: StereoEnabled at power-on. -/
  stereoInit : Bool
  /-- AUDIO_BASE: where the host maps offset 0x00; outside the block, no rule reads it (R71). -/
  audioBase : Nat
  deriving DecidableEq, Repr

/-- SAMPLE_DIV less one: any natural number (open, D11). -/
opaque Config.sampleDivPred : Nat

/-- BUF_CAP less one: any natural number (open, D12). -/
opaque Config.bufCapPred : Nat

/-- SAMPLE_RATE (open, D13). -/
opaque Config.sampleRate : BitVec 32

/-- LFSR_SEED[c] less one: any number that makes the seed one of 1..4095 (open, D14). -/
opaque Config.lfsrSeedPred : Fin 4 → Fin 4095

/-- STEREO_INIT (open, D16). -/
opaque Config.stereoInit : Bool

/-- AUDIO_BASE (open, D25). -/
opaque Config.audioBase : Nat

/-- The frameCount delivered for n frames where n does not fit in its 32 bits (44_output_stage.md R263): a free
value, any function of n. R8 bounds BUF_CAP by no number and the spec states no result there (log 23). -/
opaque Config.frameCountPast : Nat → BitVec 32

/-- The parameters of the machine that State.reset describes: each at an open value within its
constraint of R8. -/
def Config.params : Params where
  sampleDiv := Config.sampleDivPred + 1
  bufCap := Config.bufCapPred + 1
  sampleRate := Config.sampleRate
  lfsrSeed := #v[(Config.lfsrSeedPred 0).val + 1, (Config.lfsrSeedPred 1).val + 1,
    (Config.lfsrSeedPred 2).val + 1, (Config.lfsrSeedPred 3).val + 1]
  stereoInit := Config.stereoInit
  audioBase := Config.audioBase

end Sys2Proof
end

