-- ==== Sys2Proof/Machine/State.lean ====
section
/-! DEFINITION. The state of the block as plain data (10_state.md R30), what stands outside it (inputs waiting,
the last reply, what the sink has received), and the state after power-on (70_reset_and_hazards.md R331). -/

namespace Sys2Proof.Machine

/-- One channel (R30, R31 to R39). Enabled and Integrate are functions of `control` (R37). -/
structure Channel where
  /-- Volume: the byte as written; as an amplitude it is read in two's complement (R31). -/
  volume : Byte
  /-- FeedbackEnable: the tap mask (R32). -/
  feedbackEnable : Byte
  /-- Output: a signed 8-bit value in two's complement, sample and accumulator at once (R33). -/
  output : Byte
  /-- ShiftRegister: 12 bits (R34). -/
  shiftRegister : SrWord
  /-- BackupValue: the counter's reload value (R35). -/
  backupValue : Byte
  /-- Control: the raw control byte, reserved bits included (R36). -/
  control : Byte
  /-- Counter: the countdown (R38). -/
  counter : Byte
  /-- LeftAtten: the left gain (R39). -/
  leftAtten : Nibble
  /-- RightAtten: the right gain (R39). -/
  rightAtten : Nibble
  deriving DecidableEq, Repr

/-- One stereo frame (R43). -/
structure Frame where
  left : Sample
  right : Sample
  deriving DecidableEq, Repr

/-- One delivery to the sink: (interleavedStereoBuffer, frameCount, sampleRate), in this order and with the
types int16, uint32_t and uint32_t (R263). -/
structure HandOff where
  buffer : List Sample
  frameCount : BitVec 32
  sampleRate : BitVec 32
  deriving DecidableEq, Repr

/-- One channel's part of a snapshot tuple, in the order of R281, each a number so that a value outside its
field's range can be written down and refused (R282). -/
structure ChannelTuple where
  volume : Int
  feedbackEnable : Int
  output : Int
  shiftRegister : Int
  backupValue : Int
  control : Int
  counter : Int
  leftAtten : Int
  rightAtten : Int
  deriving DecidableEq, Repr

/-- A snapshot tuple, in the order of R281: the four channels, then the globals and the runtime state. -/
structure Snapshot where
  channels : Vector ChannelTuple 4
  masterVolume : Int
  stereoEnabled : Bool
  sampleTick : Int
  bufCount : Int
  frames : List (Int × Int)
  deriving DecidableEq, Repr

/-- What the host can do to the block (00_scope.md R3, R13; 45_config_and_snapshot.md R281, R282;
60_exceptions.md R310). -/
inductive Input where
  /-- An event word (R100). -/
  | event (w : EventWord)
  /-- MemRead(a, n): n bytes at window offset a (R13). -/
  | busRead (a : Byte) (n : Nat)
  /-- MemWrite(a, n, v) with the n bytes of v listed (R13). -/
  | busWrite (a : Byte) (data : List Byte)
  /-- Take a snapshot (R281). -/
  | snapshot
  /-- Restore a snapshot (R282). -/
  | restore (t : Snapshot)
  /-- Power off, then on again (R310, R331; log 22). -/
  | powerCycle
  deriving DecidableEq, Repr

/-- What the block answers to the host for one input: a READ gives one byte and "No other event returns a
value to the host" (R104); a snapshot gives its tuple (R281). -/
inductive Reply where
  | nothing
  | rdata (b : Byte)
  | snapshot (t : Snapshot)
  deriving DecidableEq, Repr

/-- The whole state. `params` is fixed (R8); `ch` to `buf` are the block's state (R30); `inputs`, `reply` and
`sink` stand for the host and the sink around it (log 1, 3, 4). -/
structure State where
  params : Params
  ch : Vector Channel 4
  masterVolume : Byte
  stereoEnabled : Bool
  sampleTick : Nat
  /-- The valid frames Buf[0 .. BufCount-1], oldest first; BufCount is the length (R43; log 5). -/
  buf : List Frame
  /-- The host's inputs not yet delivered, in the order it delivers them (R80). -/
  inputs : List Input
  /-- The answer to the last delivered input (R104). -/
  reply : Reply
  /-- Every hand-off the sink has received, oldest first (R261, R85). -/
  sink : List HandOff
  deriving DecidableEq, Repr

/-- Faults: there are none. "The block raises no exception for any event" (60_exceptions.md R300; log 24), so
no constructor exists and no step can answer one. -/
inductive Fault where
  deriving DecidableEq, Repr

/-- The refusals of 60_exceptions.md R301. A refusal carries no state: it "leaves the block's state
unchanged and marks the run refused". -/
inductive Refusal where
  /-- An instruction without a meaning in this model. Raised by exec's refused arms only, and there is none.
  Safe: the run stops. -/
  | notModelled (mnemonic : String)
  /-- ReservedEvent: event op 0b110 or 0b111 (R103). Raised by RESERVED_6 and RESERVED_7. Safe. -/
  | reservedEvent
  /-- InvalidRestore: a restore tuple out of range (R282). Raised by the restore input. Safe. -/
  | invalidRestore
  /-- WideAccess: a bus access that is not one byte (R77). Raised by the bus inputs. Safe. -/
  | wideAccess
  /-- BadParameter: SAMPLE_DIV < 1, BUF_CAP < 1 or a seed outside 1..4095. Raised at power-on. Safe. -/
  | badParameter
  deriving DecidableEq, Repr

/-- A channel at its reset values: the seed in ShiftRegister, everything else 0 (R330). -/
def Channel.atReset (seed : Nat) : Channel where
  volume := 0x00
  feedbackEnable := 0x00
  output := 0
  shiftRegister := BitVec.ofNat 12 seed
  backupValue := 0x00
  control := 0x00
  counter := 0x00
  leftAtten := 0
  rightAtten := 0

/-- The four channels at their reset values (R330). -/
def channelsAtReset (p : Params) : Vector Channel 4 := mapFour Channel.atReset p.lfsrSeed

/-- The block after power-on with the parameters p: StereoEnabled is STEREO_INIT, the rest is what RESET
leaves, and nothing is handed off (R331). -/
def State.powerOn (p : Params) : State where
  params := p
  ch := channelsAtReset p
  masterVolume := 0x00
  stereoEnabled := p.stereoInit
  sampleTick := 0
  buf := []
  inputs := []
  reply := .nothing
  sink := []

/-- The machine after power-on, its parameters open (R8, R331). -/
def State.reset : State := State.powerOn Config.params

end Sys2Proof.Machine
end

