-- ==== Sys2Proof/Machine/Ops.lean ====
section
/-! DEFINITION. The named operations the meanings are written over: the arithmetic primitives (00_scope.md
R11), access to a channel (R12), the reply port, and the check of the parameters (60_exceptions.md R301).
There is no exception to take and none to return from (R300, R304). -/

namespace Sys2Proof.Machine

/-- The outcome of one event. -/
abbrev Result := Host.Outcome State Fault Refusal

/-! ### Arithmetic primitives, each on Int (R11) -/

/-- sext_8: the byte read as a two's-complement value. -/
def sext8 (b : Byte) : Int := b.toInt

/-- byte8: the value mod 256 as a byte. -/
def byte8 (v : Int) : Byte := BitVec.ofInt 8 v

/-- zext_8 of a nibble. -/
def zext8 (v : Nibble) : Byte := v.setWidth 8

/-- x held between lo and hi: saturating, never wrapping. -/
def clampTo (lo hi x : Int) : Int := min hi (max lo x)

/-- sat8, stored in an s8 field. -/
def sat8 (x : Int) : Byte := byte8 (clampTo (-128) 127 x)

/-- sat16, stored in an s16 field. -/
def sat16 (x : Int) : Sample := BitVec.ofInt 16 (clampTo (-32768) 32767 x)

/-- asr: floor of x over 2 to the k (the source's `>>` on a signed value). -/
def asr (x : Int) (k : Nat) : Int := Int.fdiv x (2 ^ k)

/-- tdiv by 2: the quotient truncated toward zero (the source's `/ 2`). -/
def tdiv2 (x : Int) : Int := Int.tdiv x 2

/-! ### Channels (R12) -/

/-- ch[c]. -/
def State.chan (s : State) (c : ChanIx) : Channel := s.ch[c.toFin]

/-- ch[c] replaced by k. -/
def State.setChan (s : State) (c : ChanIx) (k : Channel) : State :=
  { s with ch := s.ch.set c.toNat k c.isLt }

/-- ch[c] changed by f. -/
def State.modifyChan (s : State) (c : ChanIx) (f : Channel → Channel) : State :=
  s.setChan c (f (s.chan c))

/-- BufCount: how many frames of Buf are valid (R43). -/
def State.bufCount (s : State) : Nat := s.buf.length

/-! ### The reply port (R104) -/

/-- The byte b goes back to the host; nothing else changes. -/
def State.answer (s : State) (b : Byte) : State := { s with reply := .rdata b }

/-! ### Parameters (R8, R301) -/

/-- The constraints of R8; where they fail, BadParameter (R301). -/
def paramsOk (p : Params) : Bool :=
  decide (1 ≤ p.sampleDiv) && decide (1 ≤ p.bufCap) &&
    p.lfsrSeed.toList.all fun seed => decide (1 ≤ seed) && decide (seed ≤ 4095)

end Sys2Proof.Machine
end

