-- ==== Sys2Proof/Machine/Flags.lean ====
section
/-! DEFINITION. The two flags of a channel. The block has no flags register (10_state.md R44); Enabled and
Integrate are "functions of its Control byte, not separate state" (R37). -/

namespace Sys2Proof.Machine

/-- Enabled(c) = ch[c].Control[7]. -/
def Channel.enabled (k : Channel) : Bool := k.control.getLsbD 7

/-- Integrate(c) = ch[c].Control[5]. -/
def Channel.integrate (k : Channel) : Bool := k.control.getLsbD 5

end Sys2Proof.Machine
end

