-- ==== Sys2Proof/Machine/Lfsr.lean ====
section
/-! DEFINITION. One clock of a channel (40_lfsr_channel.md R130 to R136). Each operation takes one channel and
gives one channel: "no channel's clock reads or writes another channel's state" (R136). -/

namespace Sys2Proof.Machine

/-- The tap positions, in FeedbackEnable bit order (R130). -/
def taps : List Nat := [0, 1, 2, 3, 4, 5, 7, 10]

/-- Feedback(sr, fe): the XOR of the shift register bits whose mask bit is set (R131). -/
def feedback (sr : SrWord) (fe : Byte) : Bool :=
  taps.zipIdx.foldl (fun f (tap, i) => if fe.getLsbD i then f ^^ sr.getLsbD tap else f) false

/-- LfsrShift(c): shift right by one, the feedback bit in at position 11 (R132). -/
def Channel.lfsrShift (k : Channel) : Channel :=
  let f := (BitVec.ofBool (feedback k.shiftRegister k.feedbackEnable)).setWidth 12
  { k with shiftRegister := (k.shiftRegister >>> 1 ||| f <<< 11) &&& 0xFFF }

/-- UpdateIntegrate(c): Output plus or minus Volume by the new bit 0, saturated (R133). -/
def Channel.updateIntegrate (k : Channel) : Channel :=
  let v := sext8 k.volume
  let x := if k.shiftRegister.getLsbD 0 then sext8 k.output + v else sext8 k.output - v
  { k with output := sat8 x }

/-- UpdateDirect(c): plus or minus Volume by the new bit 0, saturated (R134). -/
def Channel.updateDirect (k : Channel) : Channel :=
  let v := sext8 k.volume
  let x := if k.shiftRegister.getLsbD 0 then v else -v
  { k with output := sat8 x }

/-- ClockChannel(c): the shift, then the Output update of the channel's mode (R135). -/
def Channel.clock (k : Channel) : Channel :=
  let k := k.lfsrShift
  if k.integrate then k.updateIntegrate else k.updateDirect

end Sys2Proof.Machine
end

