-- ==== Sys2Proof/Machine/Mixer.lean ====
section
/-! DEFINITION. The stereo mixer (42_stereo_mixer.md R180 to R184), every intermediate an exact integer
(00_scope.md R10). -/

namespace Sys2Proof.Machine

/-- A channel's term on one side: asr(Output * Atten, 2) (R181). -/
def channelTerm (output : Byte) (atten : Nibble) : Int := asr (sext8 output * atten.toNat) 2

/-- One round of the mix's loop: an enabled channel adds its two terms, a disabled one nothing (R181). -/
def mixAdd (acc : Int × Int) (k : Channel) : Int × Int :=
  if k.enabled then
    (acc.1 + channelTerm k.output k.leftAtten, acc.2 + channelTerm k.output k.rightAtten)
  else acc

/-- The two sums over the channels 0 to 3 (R180). -/
def mixSums (s : State) : Int × Int := s.ch.toList.foldl mixAdd (0, 0)

/-- The master volume stage: times MasterVolume + 1, then asr by 4 (R182). -/
def masterScale (mv : Byte) (x : Int) : Int := asr (x * (mv.toNat + 1)) 4

/-- The mono fold-down: when StereoEnabled is false both sides become the truncated average (R183). -/
def foldDown (stereo : Bool) (sides : Int × Int) : Int × Int :=
  if stereo then sides
  else
    let mono := tdiv2 (sides.1 + sides.2)
    (mono, mono)

/-- The sides after the master volume and the fold, before the gain (R180). -/
def mixSides (s : State) : Int × Int :=
  let sums := mixSums s
  foldDown s.stereoEnabled (masterScale s.masterVolume sums.1, masterScale s.masterVolume sums.2)

/-- Gain 64 and the 16-bit clamp (R184). -/
def gainClamp (x : Int) : Sample := sat16 (x * 64)

/-- Mix(): one frame from the state as it stands; no state is written (R180). -/
def mix (s : State) : Frame :=
  let sides := mixSides s
  { left := gainClamp sides.1, right := gainClamp sides.2 }

end Sys2Proof.Machine
end

