-- ==== Sys2Proof/Machine/Output.lean ====
section
/-! DEFINITION. The output stage (44_output_stage.md R260, R261, R263): the sample buffer, the flush and the
hand-off to the sink. -/

namespace Sys2Proof.Machine

/-- Frame k at elements 2k (left) and 2k + 1 (right) (R263). -/
def interleave (frames : List Frame) : List Sample := frames.flatMap fun f => [f.left, f.right]

/-- The uint32_t frameCount of n frames: n, where it fits; a free value where it does not (R263; log 23). -/
def frameCountOf (n : Nat) : BitVec 32 :=
  if n < 2 ^ 32 then BitVec.ofNat 32 n else Config.frameCountPast n

/-- HandOff(copy of Buf[0 .. BufCount-1], BufCount, SAMPLE_RATE) (R261). -/
def handOffOf (s : State) : HandOff :=
  { buffer := interleave s.buf, frameCount := frameCountOf s.bufCount, sampleRate := s.params.sampleRate }

/-- Flush(): one hand-off, then BufCount is 0 (R261). -/
def flush (s : State) : State := { s with sink := s.sink ++ [handOffOf s], buf := [] }

/-- AppendFrame(L, R): the frame goes in, and a full buffer is flushed at once (R260). -/
def appendFrame (s : State) (f : Frame) : State :=
  let s := { s with buf := s.buf ++ [f] }
  if s.bufCount = s.params.bufCap then flush s else s

end Sys2Proof.Machine
end

