-- ==== Sys2Proof/Machine/Clock.lean ====
section
/-! DEFINITION. The clock driver (41_clock_driver.md R160, R161, R163). -/

namespace Sys2Proof.Machine

/-- ChannelStep(c): a disabled channel keeps everything; a counter above 0 counts down; a counter at 0 is
reloaded and the channel clocked (R161). -/
def Channel.step (k : Channel) : Channel :=
  if k.enabled = false then k
  else if k.counter ≠ 0 then { k with counter := k.counter - 1 }
  else ({ k with counter := k.backupValue } : Channel).clock

/-- The channel steps of one TICK, for c in 0..3 (R160). -/
def tickChannels (s : State) : State :=
  [0, 1, 2, 3].foldl (fun s c => s.modifyChan c Channel.step) s

/-- SampleStep(): the divider counts, and at SAMPLE_DIV it starts over and a frame is mixed and appended
(R163). -/
def sampleStep (s : State) : State :=
  let s := { s with sampleTick := s.sampleTick + 1 }
  if s.sampleTick = s.params.sampleDiv then
    let s := { s with sampleTick := 0 }
    appendFrame s (mix s)
  else s

end Sys2Proof.Machine
end

