-- ==== Sys2Proof/Machine/Events.lean ====
section
/-! DEFINITION. The events that carry no register access: TICK (41_clock_driver.md R160), FRAME_END
(44_output_stage.md R262), SET_STEREO (45_config_and_snapshot.md R280), RESET (70_reset_and_hazards.md R330)
and the two reserved ops (30_encoding.md R103). -/

namespace Sys2Proof.Machine

/-- TICK: the channel steps, then the sample step, which sees them (R160). -/
def execTick (s : State) : Result := .next (sampleStep (tickChannels s))

/-- FRAME_END: one flush, of an empty buffer too (R262). -/
def execFrameEnd (s : State) : Result := .next (flush s)

/-- SET_STEREO: StereoEnabled <- (b = 1) (R280). -/
def execSetStereo (b : Bool) (s : State) : Result := .next { s with stereoEnabled := b }

/-- The fields RESET writes; StereoEnabled is not one of them (R330, R41). -/
def resetFields (s : State) : State :=
  { s with ch := channelsAtReset s.params, masterVolume := 0x00, sampleTick := 0, buf := [] }

/-- RESET: buffered frames, if any, are handed off first; then the reset values (R330). -/
def execReset (s : State) : Result :=
  .next (resetFields (if s.bufCount > 0 then flush s else s))

/-- RESERVED_6: op 0b110 has no meaning; refused by name (R103). -/
def execReserved6 (_s : State) : Result := .refused .reservedEvent

/-- RESERVED_7: op 0b111 has no meaning; refused by name (R103). -/
def execReserved7 (_s : State) : Result := .refused .reservedEvent

end Sys2Proof.Machine
end

