-- ==== Sys2Proof/Machine/Operands.lean ====
section
/-! DEFINITION. The places of the register window, read and written (20_memory.md R72;
43_register_interface.md R203 to R214 and R220 to R231). Every READ and WRITE is one of these. -/

namespace Sys2Proof.Machine

/-- The byte a channel register reads as (R203 to R210). -/
def Channel.readReg (k : Channel) : ChannelReg → Byte
  | .volume => k.volume
  | .feedbackEnable => k.feedbackEnable
  | .output => byte8 (sext8 k.output)
  | .shiftLow => k.shiftRegister.extractLsb' 0 8
  | .shiftHigh => zext8 (k.shiftRegister.extractLsb' 8 4)
  | .backupValue => k.backupValue
  | .control => k.control
  | .counter => k.counter

/-- A channel register written with d (R220 to R227): only the selected field changes. -/
def Channel.writeReg (k : Channel) (r : ChannelReg) (d : Byte) : Channel :=
  match r with
  | .volume => { k with volume := d }
  | .feedbackEnable => { k with feedbackEnable := d }
  | .output => { k with output := byte8 (sext8 d) }
  | .shiftLow => { k with shiftRegister := k.shiftRegister.extractLsb' 8 4 ++ d }
  | .shiftHigh => { k with shiftRegister := d.extractLsb' 0 4 ++ k.shiftRegister.extractLsb' 0 8 }
  | .backupValue => { k with backupValue := d }
  | .control => { k with control := d }
  | .counter => { k with counter := d }

/-- The byte an attenuation register reads as: bits 7:4 read 0 (R211, R212). -/
def Channel.readAtten (k : Channel) : Side → Byte
  | .left => zext8 k.leftAtten
  | .right => zext8 k.rightAtten

/-- An attenuation register written with d: the low 4 bits are kept (R228, R229). -/
def Channel.writeAtten (k : Channel) (side : Side) (d : Byte) : Channel :=
  match side with
  | .left => { k with leftAtten := d.extractLsb' 0 4 }
  | .right => { k with rightAtten := d.extractLsb' 0 4 }

/-- The byte a place reads as; an unmapped offset reads 0 (R214). -/
def State.readAt (s : State) : Location → Byte
  | .channel c r => (s.chan c).readReg r
  | .atten c side => (s.chan c).readAtten side
  | .masterVolume => s.masterVolume
  | .unmapped _ => 0x00

/-- A place written with d; a write at an unmapped offset does nothing (R231). -/
def State.writeAt (s : State) (l : Location) (d : Byte) : State :=
  match l with
  | .channel c r => s.modifyChan c fun k => k.writeReg r d
  | .atten c side => s.modifyChan c fun k => k.writeAtten side d
  | .masterVolume => { s with masterVolume := d }
  | .unmapped _ => s

/-- ReadReg(a): what a READ at offset a returns (R200). -/
def readReg (s : State) (a : Byte) : Byte := s.readAt (locate a)

/-- What a WRITE of d at offset a leaves (R201). -/
def writeReg (s : State) (a d : Byte) : State := s.writeAt (locate a) d

end Sys2Proof.Machine
end

