-- ==== Sys2Proof/Machine/Reads.lean ====
section
/-! DEFINITION. The READ events (43_register_interface.md R200, R203 to R214): one byte to the host, no change
of the block's state. -/

namespace Sys2Proof.Machine

/-- RD_VOL: channel c Volume (R203). -/
def execRdVol (c : ChanIx) (s : State) : Result := .next (s.answer (s.readAt (.channel c .volume)))

/-- RD_FBEN: channel c FeedbackEnable (R204). -/
def execRdFben (c : ChanIx) (s : State) : Result := .next (s.answer (s.readAt (.channel c .feedbackEnable)))

/-- RD_OUT: channel c Output, as its two's-complement byte (R205). -/
def execRdOut (c : ChanIx) (s : State) : Result := .next (s.answer (s.readAt (.channel c .output)))

/-- RD_SRLO: channel c ShiftRegister[7:0] (R206). -/
def execRdSrlo (c : ChanIx) (s : State) : Result := .next (s.answer (s.readAt (.channel c .shiftLow)))

/-- RD_SRHI: channel c ShiftRegister[11:8], bits 7:4 zero (R207). -/
def execRdSrhi (c : ChanIx) (s : State) : Result := .next (s.answer (s.readAt (.channel c .shiftHigh)))

/-- RD_BKUP: channel c BackupValue (R208). -/
def execRdBkup (c : ChanIx) (s : State) : Result := .next (s.answer (s.readAt (.channel c .backupValue)))

/-- RD_CTL: channel c Control, the raw byte (R209). -/
def execRdCtl (c : ChanIx) (s : State) : Result := .next (s.answer (s.readAt (.channel c .control)))

/-- RD_CNT: channel c Counter (R210). -/
def execRdCnt (c : ChanIx) (s : State) : Result := .next (s.answer (s.readAt (.channel c .counter)))

/-- RD_ATTL: channel c LeftAtten, zero-extended (R211). -/
def execRdAttl (c : ChanIx) (s : State) : Result := .next (s.answer (s.readAt (.atten c .left)))

/-- RD_ATTR: channel c RightAtten, zero-extended (R212). -/
def execRdAttr (c : ChanIx) (s : State) : Result := .next (s.answer (s.readAt (.atten c .right)))

/-- RD_MVOL: MasterVolume (R213). -/
def execRdMvol (s : State) : Result := .next (s.answer (s.readAt .masterVolume))

/-- RD_UNMAPPED_28: an unmapped offset reads 0x00 (R214). -/
def execRdUnmapped28 (_a : Byte) (s : State) : Result := .next (s.answer (s.readAt (.unmapped .from28)))

/-- RD_UNMAPPED_31: an unmapped offset reads 0x00 (R214). -/
def execRdUnmapped31 (_a : Byte) (s : State) : Result := .next (s.answer (s.readAt (.unmapped .from31)))

/-- RD_UNMAPPED_32: an unmapped offset reads 0x00 (R214). -/
def execRdUnmapped32 (_a : Byte) (s : State) : Result := .next (s.answer (s.readAt (.unmapped .from32)))

/-- RD_UNMAPPED_34: an unmapped offset reads 0x00 (R214). -/
def execRdUnmapped34 (_a : Byte) (s : State) : Result := .next (s.answer (s.readAt (.unmapped .from34)))

/-- RD_UNMAPPED_38: an unmapped offset reads 0x00 (R214). -/
def execRdUnmapped38 (_a : Byte) (s : State) : Result := .next (s.answer (s.readAt (.unmapped .from38)))

/-- RD_UNMAPPED_40: an unmapped offset reads 0x00 (R214). -/
def execRdUnmapped40 (_a : Byte) (s : State) : Result := .next (s.answer (s.readAt (.unmapped .from40)))

/-- RD_UNMAPPED_80: an unmapped offset reads 0x00 (R214). -/
def execRdUnmapped80 (_a : Byte) (s : State) : Result := .next (s.answer (s.readAt (.unmapped .from80)))

end Sys2Proof.Machine
end

