-- ==== Sys2Proof/Machine/Writes.lean ====
section
/-! DEFINITION. The WRITE events (43_register_interface.md R201, R220 to R231): only the selected field changes,
at once; no reload, no clock, no mix, no flush, and no byte back. -/

namespace Sys2Proof.Machine

/-- WR_VOL: ch[c].Volume <- d (R220). -/
def execWrVol (c : ChanIx) (d : Byte) (s : State) : Result := .next (s.writeAt (.channel c .volume) d)

/-- WR_FBEN: ch[c].FeedbackEnable <- d (R221). -/
def execWrFben (c : ChanIx) (d : Byte) (s : State) : Result := .next (s.writeAt (.channel c .feedbackEnable) d)

/-- WR_OUT: ch[c].Output <- sext_8(d) (R222). -/
def execWrOut (c : ChanIx) (d : Byte) (s : State) : Result := .next (s.writeAt (.channel c .output) d)

/-- WR_SRLO: ch[c].ShiftRegister[7:0] <- d, bits 11:8 kept (R223). -/
def execWrSrlo (c : ChanIx) (d : Byte) (s : State) : Result := .next (s.writeAt (.channel c .shiftLow) d)

/-- WR_SRHI: ch[c].ShiftRegister[11:8] <- d[3:0], bits 7:0 kept (R224). -/
def execWrSrhi (c : ChanIx) (d : Byte) (s : State) : Result := .next (s.writeAt (.channel c .shiftHigh) d)

/-- WR_BKUP: ch[c].BackupValue <- d, Counter not reloaded (R225). -/
def execWrBkup (c : ChanIx) (d : Byte) (s : State) : Result := .next (s.writeAt (.channel c .backupValue) d)

/-- WR_CTL: ch[c].Control <- d, and with it Enabled and Integrate (R226). -/
def execWrCtl (c : ChanIx) (d : Byte) (s : State) : Result := .next (s.writeAt (.channel c .control) d)

/-- WR_CNT: ch[c].Counter <- d (R227). -/
def execWrCnt (c : ChanIx) (d : Byte) (s : State) : Result := .next (s.writeAt (.channel c .counter) d)

/-- WR_ATTL: ch[c].LeftAtten <- d[3:0] (R228). -/
def execWrAttl (c : ChanIx) (d : Byte) (s : State) : Result := .next (s.writeAt (.atten c .left) d)

/-- WR_ATTR: ch[c].RightAtten <- d[3:0] (R229). -/
def execWrAttr (c : ChanIx) (d : Byte) (s : State) : Result := .next (s.writeAt (.atten c .right) d)

/-- WR_MVOL: MasterVolume <- d (R230). -/
def execWrMvol (d : Byte) (s : State) : Result := .next (s.writeAt .masterVolume d)

/-- WR_UNMAPPED_28: "a silent no-op (not an error)"; the data byte is ignored (R231). -/
def execWrUnmapped28 (w : UnmappedWrite) (s : State) : Result := .next (s.writeAt (.unmapped .from28) w.data)

/-- WR_UNMAPPED_31: "a silent no-op (not an error)"; the data byte is ignored (R231). -/
def execWrUnmapped31 (w : UnmappedWrite) (s : State) : Result := .next (s.writeAt (.unmapped .from31) w.data)

/-- WR_UNMAPPED_32: "a silent no-op (not an error)"; the data byte is ignored (R231). -/
def execWrUnmapped32 (w : UnmappedWrite) (s : State) : Result := .next (s.writeAt (.unmapped .from32) w.data)

/-- WR_UNMAPPED_34: "a silent no-op (not an error)"; the data byte is ignored (R231). -/
def execWrUnmapped34 (w : UnmappedWrite) (s : State) : Result := .next (s.writeAt (.unmapped .from34) w.data)

/-- WR_UNMAPPED_38: "a silent no-op (not an error)"; the data byte is ignored (R231). -/
def execWrUnmapped38 (w : UnmappedWrite) (s : State) : Result := .next (s.writeAt (.unmapped .from38) w.data)

/-- WR_UNMAPPED_40: "a silent no-op (not an error)"; the data byte is ignored (R231). -/
def execWrUnmapped40 (w : UnmappedWrite) (s : State) : Result := .next (s.writeAt (.unmapped .from40) w.data)

/-- WR_UNMAPPED_80: "a silent no-op (not an error)"; the data byte is ignored (R231). -/
def execWrUnmapped80 (w : UnmappedWrite) (s : State) : Result := .next (s.writeAt (.unmapped .from80) w.data)

end Sys2Proof.Machine
end

