-- ==== Sys2Proof/Machine/Dispatch.lean ====
section
/-! DEFINITION. One arm per row of the opcode table: the meaning of each event. -/

namespace Sys2Proof.Machine

def exec (i : Instr) (s : State) : Host.Outcome State Fault Refusal :=
  match i with
  | .rdVol c => Sys2Proof.Machine.execRdVol c s
  | .rdFben c => Sys2Proof.Machine.execRdFben c s
  | .rdOut c => Sys2Proof.Machine.execRdOut c s
  | .rdSrlo c => Sys2Proof.Machine.execRdSrlo c s
  | .rdSrhi c => Sys2Proof.Machine.execRdSrhi c s
  | .rdBkup c => Sys2Proof.Machine.execRdBkup c s
  | .rdCtl c => Sys2Proof.Machine.execRdCtl c s
  | .rdCnt c => Sys2Proof.Machine.execRdCnt c s
  | .rdAttl c => Sys2Proof.Machine.execRdAttl c s
  | .rdAttr c => Sys2Proof.Machine.execRdAttr c s
  | .rdMvol => Sys2Proof.Machine.execRdMvol s
  | .rdUnmapped28 a => Sys2Proof.Machine.execRdUnmapped28 a s
  | .rdUnmapped31 a => Sys2Proof.Machine.execRdUnmapped31 a s
  | .rdUnmapped32 a => Sys2Proof.Machine.execRdUnmapped32 a s
  | .rdUnmapped34 a => Sys2Proof.Machine.execRdUnmapped34 a s
  | .rdUnmapped38 a => Sys2Proof.Machine.execRdUnmapped38 a s
  | .rdUnmapped40 a => Sys2Proof.Machine.execRdUnmapped40 a s
  | .rdUnmapped80 a => Sys2Proof.Machine.execRdUnmapped80 a s
  | .wrVol c d => Sys2Proof.Machine.execWrVol c d s
  | .wrFben c d => Sys2Proof.Machine.execWrFben c d s
  | .wrOut c d => Sys2Proof.Machine.execWrOut c d s
  | .wrSrlo c d => Sys2Proof.Machine.execWrSrlo c d s
  | .wrSrhi c d => Sys2Proof.Machine.execWrSrhi c d s
  | .wrBkup c d => Sys2Proof.Machine.execWrBkup c d s
  | .wrCtl c d => Sys2Proof.Machine.execWrCtl c d s
  | .wrCnt c d => Sys2Proof.Machine.execWrCnt c d s
  | .wrAttl c d => Sys2Proof.Machine.execWrAttl c d s
  | .wrAttr c d => Sys2Proof.Machine.execWrAttr c d s
  | .wrMvol d => Sys2Proof.Machine.execWrMvol d s
  | .wrUnmapped28 w => Sys2Proof.Machine.execWrUnmapped28 w s
  | .wrUnmapped31 w => Sys2Proof.Machine.execWrUnmapped31 w s
  | .wrUnmapped32 w => Sys2Proof.Machine.execWrUnmapped32 w s
  | .wrUnmapped34 w => Sys2Proof.Machine.execWrUnmapped34 w s
  | .wrUnmapped38 w => Sys2Proof.Machine.execWrUnmapped38 w s
  | .wrUnmapped40 w => Sys2Proof.Machine.execWrUnmapped40 w s
  | .wrUnmapped80 w => Sys2Proof.Machine.execWrUnmapped80 w s
  | .tick => Sys2Proof.Machine.execTick s
  | .frameEnd => Sys2Proof.Machine.execFrameEnd s
  | .setStereo b => Sys2Proof.Machine.execSetStereo b s
  | .reset => Sys2Proof.Machine.execReset s
  | .reserved6 => Sys2Proof.Machine.execReserved6 s
  | .reserved7 => Sys2Proof.Machine.execReserved7 s

end Sys2Proof.Machine
end

