-- ==== Sys2Proof/Machine/Snapshot.lean ====
section
/-! DEFINITION. Snapshot and restore (45_config_and_snapshot.md R281, R282), and power-on as the host brings it
about (70_reset_and_hazards.md R331, 60_exceptions.md R301, R310). -/

namespace Sys2Proof.Machine

/-- The numbers of one channel, in the order of R281. -/
def channelTuple (k : Channel) : ChannelTuple where
  volume := k.volume.toNat
  feedbackEnable := k.feedbackEnable.toNat
  output := sext8 k.output
  shiftRegister := k.shiftRegister.toNat
  backupValue := k.backupValue.toNat
  control := k.control.toNat
  counter := k.counter.toNat
  leftAtten := k.leftAtten.toNat
  rightAtten := k.rightAtten.toNat

/-- The tuple of the complete state (R281). -/
def snapshotOf (s : State) : Snapshot where
  channels := mapFour channelTuple s.ch
  masterVolume := s.masterVolume.toNat
  stereoEnabled := s.stereoEnabled
  sampleTick := s.sampleTick
  bufCount := s.bufCount
  frames := s.buf.map fun f => (f.left.toInt, f.right.toInt)

/-- One channel's numbers as a list, in the order of R281. -/
def channelTupleList (t : ChannelTuple) : List Int :=
  [t.volume, t.feedbackEnable, t.output, t.shiftRegister, t.backupValue, t.control, t.counter,
    t.leftAtten, t.rightAtten]

/-- The whole tuple as one list, "in a fixed and stable order" (R281); a bool is 0 or 1 (R10). -/
def snapshotList (t : Snapshot) : List Int :=
  t.channels.toList.flatMap channelTupleList ++
    [t.masterVolume, if t.stereoEnabled then 1 else 0, t.sampleTick, t.bufCount] ++
    t.frames.flatMap fun f => [f.1, f.2]

/-- lo <= x <= hi. -/
def inRange (lo hi x : Int) : Bool := decide (lo ≤ x) && decide (x ≤ hi)

/-- The ranges of a channel's fields (R45). -/
def channelTupleOk (t : ChannelTuple) : Bool :=
  inRange 0 255 t.volume && inRange 0 255 t.feedbackEnable && inRange (-128) 127 t.output &&
    inRange 0 4095 t.shiftRegister && inRange 0 255 t.backupValue && inRange 0 255 t.control &&
    inRange 0 255 t.counter && inRange 0 15 t.leftAtten && inRange 0 15 t.rightAtten

/-- A tuple of the form of R281 with every field in its range (R45, R282). The form has BufCount frames
(log 17). -/
def snapshotOk (p : Params) (t : Snapshot) : Bool :=
  t.channels.toList.all channelTupleOk && inRange 0 255 t.masterVolume &&
    inRange 0 ((p.sampleDiv : Int) - 1) t.sampleTick && inRange 0 ((p.bufCap : Int) - 1) t.bufCount &&
    decide (t.bufCount = t.frames.length) &&
    t.frames.all fun f => inRange (-32768) 32767 f.1 && inRange (-32768) 32767 f.2

/-- The channel of a tuple in range. -/
def channelOfTuple (t : ChannelTuple) : Channel where
  volume := BitVec.ofInt 8 t.volume
  feedbackEnable := BitVec.ofInt 8 t.feedbackEnable
  output := byte8 t.output
  shiftRegister := BitVec.ofInt 12 t.shiftRegister
  backupValue := BitVec.ofInt 8 t.backupValue
  control := BitVec.ofInt 8 t.control
  counter := BitVec.ofInt 8 t.counter
  leftAtten := BitVec.ofInt 4 t.leftAtten
  rightAtten := BitVec.ofInt 4 t.rightAtten

/-- The block's state replaced, field for field, by the tuple's (R282). Frames that were buffered before are
replaced with the rest, and no hand-off of them is made: R282 names none and R264 speaks of none here, so this is
the model's choice (log 29, DESIGN CHOICE). -/
def restoreFields (t : Snapshot) (s : State) : State :=
  { s with
    ch := mapFour channelOfTuple t.channels
    masterVolume := BitVec.ofInt 8 t.masterVolume
    stereoEnabled := t.stereoEnabled
    sampleTick := t.sampleTick.toNat
    buf := t.frames.map fun f => ⟨BitVec.ofInt 16 f.1, BitVec.ofInt 16 f.2⟩ }

/-- Take a snapshot: the tuple goes to the host and no state changes (R281). -/
def takeSnapshot (s : State) : Result := .next { s with reply := .snapshot (snapshotOf s) }

/-- Restore: a tuple out of range is refused, InvalidRestore (R282). -/
def restore (t : Snapshot) (s : State) : Result :=
  if snapshotOk s.params t then .next (restoreFields t s) else .refused .invalidRestore

/-- Power off, then on: every field is discarded, buffered frames with no hand-off (R310), and the block
starts as R331 says; parameters outside R8 are refused, BadParameter (R301). The host's later inputs and what
the sink has already received are outside the block and stay (log 22). -/
def powerCycle (s : State) : Result :=
  if paramsOk s.params then
    .next { State.powerOn s.params with inputs := s.inputs, sink := s.sink }
  else .refused .badParameter

end Sys2Proof.Machine
end

