-- ==== Sys2Proof/Machine/Inputs.lean ====
section
/-! DEFINITION. Delivering one input of the host to the block (00_scope.md R3, R13; 20_memory.md R77, R78). -/

namespace Sys2Proof.Machine

/-- The state in which a delivered input is applied: it is no longer waiting, and the reply of the input
before it is gone ("No other event returns a value to the host", R104; log 3). -/
def State.accept (s : State) (rest : List Input) : State := { s with inputs := rest, reply := .nothing }

/-- MemRead(a, n): n = 1 is the READ event at a; there is no other width (R13, R77). -/
def busRead (a : Byte) (n : Nat) (s : State) : Result :=
  if n = 1 then exec (decodeRead a) s else .refused .wideAccess

/-- MemWrite(a, n, v): n = 1 is the WRITE event at a; there is no other width (R13, R77). -/
def busWrite (a : Byte) (data : List Byte) (s : State) : Result :=
  match data with
  | [d] => exec (decodeWrite a d) s
  | [] => .refused .wideAccess
  | _ :: _ :: _ => .refused .wideAccess

/-- One input applied to the block. -/
def deliver (x : Input) (s : State) : Result :=
  match x with
  | .event w => exec (decode w) s
  | .busRead a n => busRead a n s
  | .busWrite a data => busWrite a data s
  | .snapshot => takeSnapshot s
  | .restore t => restore t s
  | .powerCycle => powerCycle s

/-- What the block does next: with nothing delivered it does nothing (R310, R332; log 1); else the oldest
input is applied whole (R78, R80). -/
def advance (s : State) : Result :=
  match s.inputs with
  | [] => .next s
  | x :: rest => deliver x (s.accept rest)

/-- The event of the bits w comes before every other waiting input; bits that are no event word change
nothing (log 2, 18). -/
def placeEvent (s : State) (nbits w : Nat) : State :=
  match eventWordOf nbits w with
  | some e => { s with inputs := .event e :: s.inputs }
  | none => s

end Sys2Proof.Machine
end

