-- ==== Sys2Proof/Machine/Step.lean ====
section
/-! DEFINITION. The step: one input of the host applied to the block. -/

namespace Sys2Proof.Machine

/-- One step: the oldest waiting input, or nothing if none waits. -/
def step (s : State) : Host.Outcome State Fault Refusal := advance s

/-- s with the event of the bits w as the next input the host delivers (log 2). -/
def State.withFetchWord (s : State) (nbits w : Nat) : State := placeEvent s nbits w

end Sys2Proof.Machine
end

