-- ==== Sys2Proof/Safety.lean ====
section
/-! DEFINITION. What a good state is and what the block has delivered, in the terms the statements use. -/

namespace Sys2Proof.Machine

/-- A hand-off of the shape of 44_output_stage.md R263: n whole frames of two samples, at most BUF_CAP of them;
frameCount is n, for every n that a uint32_t can hold; and the sample rate is the machine's. -/
abbrev HandOff.Ok (p : Params) (h : HandOff) : Prop :=
  2 ∣ h.buffer.length ∧ h.buffer.length ≤ 2 * p.bufCap ∧
    (h.buffer.length / 2 < 2 ^ 32 → h.frameCount.toNat = h.buffer.length / 2) ∧
    h.sampleRate = p.sampleRate

/-- The invariants of 10_state.md R45 that the types of the fields do not already give: the parameters within
R8, SampleTick below SAMPLE_DIV, BufCount below BUF_CAP; and every hand-off made so far well shaped. -/
abbrev State.Inv (s : State) : Prop :=
  paramsOk s.params = true ∧ s.sampleTick < s.params.sampleDiv ∧ s.bufCount < s.params.bufCap ∧
    ∀ h ∈ s.sink, h.Ok s.params

/-- Every sample the block has produced, in order: what the sink has received, then what is still buffered
(44_output_stage.md R264). -/
def emitted (s : State) : List Sample := s.sink.flatMap HandOff.buffer ++ interleave s.buf

/-- The same block: every field of 10_state.md R30 and every parameter; the host's inputs, the reply and the
sink's record may differ. -/
abbrev SameBlock (s t : State) : Prop :=
  t.params = s.params ∧ t.ch = s.ch ∧ t.masterVolume = s.masterVolume ∧
    t.stereoEnabled = s.stereoEnabled ∧ t.sampleTick = s.sampleTick ∧ t.buf = s.buf

/-- The frames an event produces: one, when a TICK brings SampleTick to SAMPLE_DIV (41_clock_driver.md R163),
mixed after the channel steps (R160). -/
def producedBy (i : Instr) (s : State) : List Frame :=
  if i = .tick ∧ s.sampleTick + 1 = s.params.sampleDiv then [mix (tickChannels s)] else []

/-- n TICK events in a row (30_encoding.md R111, TICKS n). -/
def ticks (n : Nat) : List Input := List.replicate n (.event (encode .tick))

/-- k steps, stopping at the first refusal. -/
def runSteps : Nat → State → Result
  | 0, s => .next s
  | k + 1, s =>
    match step s with
    | .next t => runSteps k t
    | .fault f => .fault f
    | .refused r => .refused r

end Sys2Proof.Machine
end

