-- ==== Sys2Proof/Certificates/Slice0/Obligations.lean ====
section
/-! DEFINITION. The statements for the provers, from the spec's numbered rules. Where a statement rests on a
choice that the spec itself marks as its own (a decision D<n> of 92_eei_decisions.md), or on one of the model's,
its docstring says so. -/

open Sys2Proof Sys2Proof.Machine

/-! ### Encoding (30_encoding.md) -/

/-- The words of 95_test_vectors.md section 7 and of R109 decode to the events they stand for. The event word is
the spec's own choice (D2). -/
def Obligations.KnownWordsDecode : Prop :=
  decode 0x1007F = .wrVol 0 0x7F ∧ decode 0x01F00 = .rdCnt 3 ∧ decode 0x00A00 = .rdOut 1 ∧
  decode 0x02700 = .rdAttr 3 ∧ decode 0x02612 = .rdAttl 3 ∧ decode 0x12EAB = .wrUnmapped28 ⟨0x2E, 0xAB⟩ ∧
  decode 0x2ABCD = .tick ∧ decode 0x40003 = .setStereo true ∧ decode 0x40002 = .setStereo false ∧
  decode 0x3FFFF = .frameEnd ∧ decode 0x5FF00 = .reset ∧ decode 0x60000 = .reserved6 ∧
  decode 0x7FFFF = .reserved7 ∧ decode 0x13001 = .wrMvol 0x01 ∧ decode 0x13101 = .wrUnmapped31 ⟨0x31, 0x01⟩

/-- Decode and encode agree on every well-formed event, with every operand at every value (R107). -/
def Obligations.DecodeEncodeRoundTrip : Prop :=
  ∀ i : Instr, i.wellFormed = true → decode (encode i) = i

/-- Every event word selects exactly one row of the opcode table, and it is the row of the event it decodes
to (R107). -/
def Obligations.WordSelectsExactlyItsRow : Prop :=
  ∀ w : EventWord, opcodeRows.filter (fun r => r.selects w) = [opcodeRow (decode w)]

/-- Every event word decodes to a well-formed event. -/
def Obligations.DecodedWordsAreWellFormed : Prop :=
  ∀ w : EventWord, (decode w).wellFormed = true

/-- R102: READ ignores data; TICK, FRAME_END and RESET ignore addr and data; SET_STEREO looks at data[0] only;
the reserved ops (R103) ignore their `x` bits. At an unmapped offset the `x` of a WRITE's data (R107) is an operand
that does nothing (R231): words that differ in it select the same row and have the same effect in every state; that
they do not decode to one and the same term is log 28 (DEDUCED). The word is the spec's own choice (D2). -/
def Obligations.IgnoredBitsDoNotMatter : Prop :=
  (∀ a d d', decode (packWord 0b000 a d) = decode (packWord 0b000 a d')) ∧
  (∀ op ∈ [0b010#3, 0b011#3, 0b101#3, 0b110#3, 0b111#3], ∀ a d a' d',
    decode (packWord op a d) = decode (packWord op a' d')) ∧
  (∀ a d a' d', d.getLsbD 0 = d'.getLsbD 0 →
    decode (packWord 0b100 a d) = decode (packWord 0b100 a' d')) ∧
  (∀ a g d d', locate a = .unmapped g →
    opcodeRow (decode (packWord 0b001 a d)) = opcodeRow (decode (packWord 0b001 a d')) ∧
    ∀ s, exec (decode (packWord 0b001 a d)) s = exec (decode (packWord 0b001 a d')) s)

/-- No used bit of a word is lost: encoding what was decoded gives the canonical spelling (R109), the word with
its ignored bits at 0. A WRITE of d at a is 0x1aadd at every offset; that this holds at the unmapped ones, whose
data R107 marks `x`, is DEDUCED (log 28). -/
def Obligations.EncodeDecodeIsCanonical : Prop :=
  ∀ (op : BitVec 3) (a d : Byte), encode (decode (packWord op a d)) =
    if op = 0b000 then packWord op a 0
    else if op = 0b001 then packWord op a d
    else if op = 0b100 then packWord op 0 (d &&& 1)
    else packWord op 0 0

/-- R73 and R74: which register each offset below 0x28 selects, from the offset and from the register. -/
def Obligations.OffsetsSelectRegisters : Prop :=
  (∀ a : Byte, a < 0x20 →
    locate a = .channel ((a >>> 3).setWidth 2) (channelRegOf (a.setWidth 3))) ∧
  (∀ (c : ChanIx) (i : BitVec 3),
    locate (BitVec.ofNat 8 (8 * c.toNat + i.toNat)) = .channel c (channelRegOf i)) ∧
  ((List.range 8).map fun i => channelRegOf (BitVec.ofNat 3 i)) =
    [.volume, .feedbackEnable, .output, .shiftLow, .shiftHigh, .backupValue, .control, .counter] ∧
  (∀ a : Byte, 0x20 ≤ a → a ≤ 0x27 → locate a =
    .atten (((a - 0x20) >>> 1).setWidth 2) (if a.getLsbD 0 then .right else .left)) ∧
  (∀ c : ChanIx, locate (BitVec.ofNat 8 (0x20 + 2 * c.toNat)) = .atten c .left ∧
    locate (BitVec.ofNat 8 (0x21 + 2 * c.toNat)) = .atten c .right)

/-! ### The step -/

/-- A step runs the decoded event, whole, after taking it from the waiting inputs and clearing the last reply;
the event is well formed. The queue of inputs and the reply port are the model's own (log 1 and 3). -/
def Obligations.StepRunsDecodedEvent : Prop :=
  ∀ (s : State) (w : EventWord) (rest : List Input), s.inputs = .event w :: rest →
    step s = exec (decode w) { s with inputs := rest, reply := .nothing }

/-- With no input waiting the block does nothing (R310, R332; that this is a step of its own is log 1); a
one-byte bus access is the READ or WRITE event at its offset, and every other width is refused, WideAccess (R13,
R77). The refusal of an access wider than one byte is the spec's own choice (D30, R301); that an access of width 0
is refused with it is the model's own deduction from R13 (log 20, DEDUCED). -/
def Obligations.StepOfBusAccess : Prop :=
  (∀ s : State, s.inputs = [] → step s = .next s) ∧
  (∀ (s : State) (a : Byte) (n : Nat) (rest : List Input), s.inputs = .busRead a n :: rest →
    step s = if n = 1 then exec (decode (readWord a)) { s with inputs := rest, reply := .nothing }
      else .refused .wideAccess) ∧
  (∀ (s : State) (a d : Byte) (rest : List Input), s.inputs = .busWrite a [d] :: rest →
    step s = exec (decode (writeWord a d)) { s with inputs := rest, reply := .nothing }) ∧
  (∀ (s : State) (a : Byte) (data : List Byte) (rest : List Input), data.length ≠ 1 →
    s.inputs = .busWrite a data :: rest → step s = .refused .wideAccess)

/-- R300: every event but the reserved ops completes, whatever the state; an access to an unmapped offset is a
silent no-op. That no event raises an exception, and so none a fault, is the spec's own choice (D22), which the
model carries in a type of faults with no constructor (log 24): the second clause holds by that type. -/
def Obligations.EveryOtherEventCompletes : Prop :=
  (∀ (i : Instr) (s : State), i ≠ .reserved6 → i ≠ .reserved7 → ∃ t, exec i s = .next t) ∧
  (∀ (i : Instr) (s : State) (f : Fault), exec i s ≠ .fault f) ∧
  (∀ (s : State) (a d : Byte), (0x28 ≤ a ∧ a ≤ 0x2F) ∨ 0x31 ≤ a →
    exec (decode (packWord 0b001 a d)) s = .next s)

/-- R103, R301: the two reserved ops are refused, ReservedEvent, for every addr and data. The refusal is the
spec's own choice (D23). -/
def Obligations.ReservedOpsRefused : Prop :=
  (∀ s : State, exec .reserved6 s = .refused .reservedEvent) ∧
  (∀ s : State, exec .reserved7 s = .refused .reservedEvent) ∧
  (∀ a d : Byte, decode (packWord 0b110 a d) = .reserved6 ∧ decode (packWord 0b111 a d) = .reserved7)

/-! ### Reads (43_register_interface.md section 2) -/

/-- RD_VOL, RD_FBEN, RD_BKUP, RD_CNT (R203, R204, R208, R210): the register's byte goes back to the host and
nothing else changes. -/
def Obligations.RdByteRegisters : Prop :=
  ∀ (s : State) (c : ChanIx) (d : Byte),
    decode (packWord 0b000 (channelOffset c 0) d) = .rdVol c ∧
    exec (.rdVol c) s = .next { s with reply := .rdata (s.chan c).volume } ∧
    decode (packWord 0b000 (channelOffset c 1) d) = .rdFben c ∧
    exec (.rdFben c) s = .next { s with reply := .rdata (s.chan c).feedbackEnable } ∧
    decode (packWord 0b000 (channelOffset c 5) d) = .rdBkup c ∧
    exec (.rdBkup c) s = .next { s with reply := .rdata (s.chan c).backupValue } ∧
    decode (packWord 0b000 (channelOffset c 7) d) = .rdCnt c ∧
    exec (.rdCnt c) s = .next { s with reply := .rdata (s.chan c).counter }

/-- RD_OUT (R205): the two's-complement byte of Output. RD_SRLO (R206): ShiftRegister mod 256. Nothing else
changes. -/
def Obligations.RdOutputAndShiftLow : Prop :=
  ∀ (s : State) (c : ChanIx) (d : Byte),
    decode (packWord 0b000 (channelOffset c 2) d) = .rdOut c ∧
    exec (.rdOut c) s = .next { s with reply := .rdata (BitVec.ofInt 8 (s.chan c).output.toInt) } ∧
    decode (packWord 0b000 (channelOffset c 3) d) = .rdSrlo c ∧
    exec (.rdSrlo c) s =
      .next { s with reply := .rdata (BitVec.ofNat 8 ((s.chan c).shiftRegister.toNat % 256)) }

/-- RD_SRHI: ShiftRegister[11:8] in bits 3:0, bits 7:4 zero (the spec marks this as derived). RD_CTL: the raw
control byte, reserved bits included (the spec's own choice D17). -/
def Obligations.RdShiftHighAndControl : Prop :=
  ∀ (s : State) (c : ChanIx) (d : Byte),
    decode (packWord 0b000 (channelOffset c 4) d) = .rdSrhi c ∧
    exec (.rdSrhi c) s =
      .next { s with reply := .rdata (BitVec.ofNat 8 ((s.chan c).shiftRegister.toNat / 256)) } ∧
    decode (packWord 0b000 (channelOffset c 6) d) = .rdCtl c ∧
    exec (.rdCtl c) s = .next { s with reply := .rdata (s.chan c).control }

/-- RD_ATTL, RD_ATTR (R211, R212): the nibble with bits 7:4 zero. RD_MVOL (R213): MasterVolume. -/
def Obligations.RdAttenuationsAndMasterVolume : Prop :=
  ∀ (s : State) (c : ChanIx) (d : Byte),
    decode (packWord 0b000 (attenOffset c 0) d) = .rdAttl c ∧
    exec (.rdAttl c) s =
      .next { s with reply := .rdata (BitVec.ofNat 8 (s.chan c).leftAtten.toNat) } ∧
    decode (packWord 0b000 (attenOffset c 1) d) = .rdAttr c ∧
    exec (.rdAttr c) s =
      .next { s with reply := .rdata (BitVec.ofNat 8 (s.chan c).rightAtten.toNat) } ∧
    decode (packWord 0b000 0x30 d) = .rdMvol ∧
    exec .rdMvol s = .next { s with reply := .rdata s.masterVolume }

/-- R214: each RD_UNMAPPED event answers 0x00 and changes nothing, at every unmapped offset, and StereoEnabled,
SampleTick and the buffer are readable at no offset. -/
def Obligations.RdUnmappedReadsZero : Prop :=
  (∀ (s : State) (a d : Byte), (0x28 ≤ a ∧ a ≤ 0x2F) ∨ 0x31 ≤ a →
    exec (decode (packWord 0b000 a d)) s = .next { s with reply := .rdata 0x00 }) ∧
  (∀ (s : State) (a : Byte),
    exec (.rdUnmapped28 a) s = .next { s with reply := .rdata 0x00 } ∧
    exec (.rdUnmapped31 a) s = .next { s with reply := .rdata 0x00 } ∧
    exec (.rdUnmapped32 a) s = .next { s with reply := .rdata 0x00 } ∧
    exec (.rdUnmapped34 a) s = .next { s with reply := .rdata 0x00 } ∧
    exec (.rdUnmapped38 a) s = .next { s with reply := .rdata 0x00 } ∧
    exec (.rdUnmapped40 a) s = .next { s with reply := .rdata 0x00 } ∧
    exec (.rdUnmapped80 a) s = .next { s with reply := .rdata 0x00 }) ∧
  (∀ (s : State) (a : Byte) (b : Bool) (n : Nat) (l : List Frame),
    readReg { s with stereoEnabled := b, sampleTick := n, buf := l } a = readReg s a)

/-- R200: a READ at any of the 256 offsets answers ReadReg of that offset and changes no state. -/
def Obligations.ReadReturnsWindowByte : Prop :=
  ∀ (s : State) (a d : Byte),
    exec (decode (packWord 0b000 a d)) s = .next { s with reply := .rdata (readReg s a) }

/-! ### Writes (43_register_interface.md section 3): the whole next state is given, so the frame with it -/

/-- WR_FBEN, WR_BKUP, WR_CNT (R221, R225, R227): the field becomes d and nothing else changes. -/
def Obligations.WrByteRegisters : Prop :=
  ∀ (s : State) (c : ChanIx) (d : Byte),
    decode (packWord 0b001 (channelOffset c 1) d) = .wrFben c d ∧
    exec (.wrFben c d) s = .next (s.setChan c { s.chan c with feedbackEnable := d }) ∧
    decode (packWord 0b001 (channelOffset c 5) d) = .wrBkup c d ∧
    exec (.wrBkup c d) s = .next (s.setChan c { s.chan c with backupValue := d }) ∧
    decode (packWord 0b001 (channelOffset c 7) d) = .wrCnt c d ∧
    exec (.wrCnt c d) s = .next (s.setChan c { s.chan c with counter := d })

/-- WR_VOL, WR_CTL, WR_SRLO. That a Volume or Control write changes no other field and that the reserved Control
bits are stored are the spec's own choices (D18, D17); that a low-byte write keeps bits 11:8 the spec marks as
derived. -/
def Obligations.WrVolumeControlAndShiftLow : Prop :=
  ∀ (s : State) (c : ChanIx) (d : Byte),
    decode (packWord 0b001 (channelOffset c 0) d) = .wrVol c d ∧
    exec (.wrVol c d) s = .next (s.setChan c { s.chan c with volume := d }) ∧
    decode (packWord 0b001 (channelOffset c 6) d) = .wrCtl c d ∧
    exec (.wrCtl c d) s = .next (s.setChan c { s.chan c with control := d }) ∧
    decode (packWord 0b001 (channelOffset c 3) d) = .wrSrlo c d ∧
    exec (.wrSrlo c d) s = .next (s.setChan c { s.chan c with
      shiftRegister := BitVec.ofNat 12 (256 * ((s.chan c).shiftRegister.toNat / 256) + d.toNat) })

/-- WR_OUT (R222): Output becomes d read as a signed byte. WR_SRHI (R224): bits 11:8 become d[3:0], bits 7:0 are
kept. Nothing else changes. -/
def Obligations.WrOutputAndShiftHigh : Prop :=
  ∀ (s : State) (c : ChanIx) (d : Byte),
    decode (packWord 0b001 (channelOffset c 2) d) = .wrOut c d ∧
    exec (.wrOut c d) s = .next (s.setChan c { s.chan c with
      output := BitVec.ofInt 8 (if d.toNat < 128 then (d.toNat : Int) else d.toNat - 256) }) ∧
    decode (packWord 0b001 (channelOffset c 4) d) = .wrSrhi c d ∧
    exec (.wrSrhi c d) s = .next (s.setChan c { s.chan c with
      shiftRegister :=
        BitVec.ofNat 12 (256 * (d.toNat % 16) + (s.chan c).shiftRegister.toNat % 256) })

/-- WR_ATTL, WR_ATTR (R228, R229): the low four bits of d are stored. WR_MVOL (R230): d is stored. Nothing else
changes. -/
def Obligations.WrAttenuationsAndMasterVolume : Prop :=
  ∀ (s : State) (c : ChanIx) (d : Byte),
    decode (packWord 0b001 (attenOffset c 0) d) = .wrAttl c d ∧
    exec (.wrAttl c d) s =
      .next (s.setChan c { s.chan c with leftAtten := BitVec.ofNat 4 (d.toNat % 16) }) ∧
    decode (packWord 0b001 (attenOffset c 1) d) = .wrAttr c d ∧
    exec (.wrAttr c d) s =
      .next (s.setChan c { s.chan c with rightAtten := BitVec.ofNat 4 (d.toNat % 16) }) ∧
    decode (packWord 0b001 0x30 d) = .wrMvol d ∧
    exec (.wrMvol d) s = .next { s with masterVolume := d }

/-- R231: each WR_UNMAPPED event changes nothing at all, at every unmapped offset and for every data byte, and
no WRITE at any offset reaches StereoEnabled. -/
def Obligations.WrUnmappedChangesNothing : Prop :=
  (∀ (s : State) (a d : Byte), (0x28 ≤ a ∧ a ≤ 0x2F) ∨ 0x31 ≤ a →
    exec (decode (packWord 0b001 a d)) s = .next s) ∧
  (∀ (s : State) (w : UnmappedWrite),
    exec (.wrUnmapped28 w) s = .next s ∧ exec (.wrUnmapped31 w) s = .next s ∧
    exec (.wrUnmapped32 w) s = .next s ∧ exec (.wrUnmapped34 w) s = .next s ∧
    exec (.wrUnmapped38 w) s = .next s ∧ exec (.wrUnmapped40 w) s = .next s ∧
    exec (.wrUnmapped80 w) s = .next s) ∧
  (∀ (s : State) (a d : Byte), ∃ t, exec (decode (packWord 0b001 a d)) s = .next t ∧
    t.stereoEnabled = s.stereoEnabled)

/-- The frame of every WRITE, through the window: a WRITE at any offset completes, every other offset reads as
before, and no state outside the window changes (R79, R201). -/
def Obligations.WriteLeavesOtherOffsets : Prop :=
  ∀ (s : State) (a d : Byte), ∃ t, exec (decode (packWord 0b001 a d)) s = .next t ∧
    (∀ b, b ≠ a → readReg t b = readReg s b) ∧
    t.params = s.params ∧ t.stereoEnabled = s.stereoEnabled ∧ t.sampleTick = s.sampleTick ∧
    t.buf = s.buf ∧ t.inputs = s.inputs ∧ t.reply = s.reply ∧ t.sink = s.sink

/-- R232: what a WRITE of d leaves to be read at the same offset: d & 0x0F for the shift register's high nibble
and the attenuations, 0 at an unmapped offset, d elsewhere. The spec marks the rule as derived. -/
def Obligations.WriteReadRoundTrip : Prop :=
  ∀ (s : State) (a d : Byte), ∃ t, exec (decode (packWord 0b001 a d)) s = .next t ∧
    exec (decode (packWord 0b000 a 0)) t = .next (t.answer
      (if a < 0x20 then (if a &&& 7 = 4 then d &&& 0x0F else d)
      else if a < 0x28 then d &&& 0x0F
      else if a = 0x30 then d
      else 0))

/-! ### The channel (40_lfsr_channel.md) -/

/-- R131: the feedback bit is the XOR of the selected taps, mask bit i selecting the i-th of 0, 1, 2, 3, 4, 5,
7, 10; it is 0 for an empty mask and for a zero register. The pairing is the spec's own choice (D5). -/
def Obligations.FeedbackIsTapParity : Prop :=
  ∀ (sr : SrWord) (fe : Byte),
    feedback sr fe =
      ((((((((fe.getLsbD 0 && sr.getLsbD 0) ^^ (fe.getLsbD 1 && sr.getLsbD 1)) ^^
        (fe.getLsbD 2 && sr.getLsbD 2)) ^^ (fe.getLsbD 3 && sr.getLsbD 3)) ^^
        (fe.getLsbD 4 && sr.getLsbD 4)) ^^ (fe.getLsbD 5 && sr.getLsbD 5)) ^^
        (fe.getLsbD 6 && sr.getLsbD 7)) ^^ (fe.getLsbD 7 && sr.getLsbD 10)) ∧
    feedback sr 0 = false ∧ feedback 0 fe = false

/-- R132: the new bit 11 is the feedback bit of the old value, the new bits 10:0 are the old bits 11:1, and no
other field changes; an empty mask empties any register within 12 shifts, the mask 0x01 brings it back after
12 (not sooner from 0x001, after 2 from 0x555, after 1 from 0xFFF), and a register of 0 stays 0. -/
def Obligations.LfsrShiftMovesBits : Prop :=
  ∀ k : Channel,
    k.lfsrShift.shiftRegister.getLsbD 11 = feedback k.shiftRegister k.feedbackEnable ∧
    (∀ i < 11, k.lfsrShift.shiftRegister.getLsbD i = k.shiftRegister.getLsbD (i + 1)) ∧
    { k.lfsrShift with shiftRegister := k.shiftRegister } = k ∧
    (k.feedbackEnable = 0x00 → (Channel.lfsrShift^[12] k).shiftRegister = 0) ∧
    (k.feedbackEnable = 0x01 → (Channel.lfsrShift^[12] k).shiftRegister = k.shiftRegister ∧
      (k.shiftRegister = 0x001 → ∀ n, 1 ≤ n → n < 12 → (Channel.lfsrShift^[n] k).shiftRegister ≠ 0x001) ∧
      (k.shiftRegister = 0x555 → k.lfsrShift.shiftRegister = 0xAAA ∧
        k.lfsrShift.lfsrShift.shiftRegister = 0x555) ∧
      (k.shiftRegister = 0xFFF → k.lfsrShift.shiftRegister = 0xFFF)) ∧
    (k.shiftRegister = 0 → k.lfsrShift.shiftRegister = 0)

/-- R133 and R134: the new Output, as a signed number, is the exact sum, difference, amplitude or negated
amplitude held within -128..127; no other field changes. Volume as two's complement and the saturation of
-(-128) are the spec's own choices (D3, D4). -/
def Obligations.OutputUpdatesSaturate : Prop :=
  ∀ k : Channel,
    k.updateIntegrate.output.toInt =
      min 127 (max (-128) (if k.shiftRegister.getLsbD 0 then k.output.toInt + k.volume.toInt
        else k.output.toInt - k.volume.toInt)) ∧
    k.updateDirect.output.toInt =
      min 127 (max (-128) (if k.shiftRegister.getLsbD 0 then k.volume.toInt else -k.volume.toInt)) ∧
    { k.updateIntegrate with output := k.output } = k ∧ { k.updateDirect with output := k.output } = k

/-- R135: one clock shifts, then updates Output from the shifted register in the mode that Control bit 5 gives
at this moment; it writes ShiftRegister and Output and nothing else. -/
def Obligations.ClockShiftsThenUpdates : Prop :=
  ∀ k : Channel,
    k.clock.shiftRegister = k.lfsrShift.shiftRegister ∧
    k.clock.output = (if k.control.getLsbD 5 then k.lfsrShift.updateIntegrate.output
      else k.lfsrShift.updateDirect.output) ∧
    { k.clock with shiftRegister := k.shiftRegister, output := k.output } = k

/-- R137: a ShiftRegister of 0 stays 0 through any number of clocks, and each clock takes the "subtract" branch.
The spec marks the rule as derived; Volume as two's complement is its own choice (D3). -/
def Obligations.ZeroShiftRegisterStaysZero : Prop :=
  ∀ (k : Channel) (n : Nat), k.shiftRegister = 0 →
    (Channel.clock^[n] k).shiftRegister = 0 ∧
    (Channel.clock^[n + 1] k).output.toInt =
      min 127 (max (-128) (if k.control.getLsbD 5 then (Channel.clock^[n] k).output.toInt - k.volume.toInt
        else -k.volume.toInt))

/-! ### TICK (41_clock_driver.md) -/

/-- R161: TICK completes in every state, and each of the four channels: a disabled one is unchanged; an enabled
one with a counter above 0 counts down by one and changes nothing else; an enabled one at 0 is reloaded from
BackupValue and then clocked once. -/
def Obligations.TickStepsEachChannel : Prop :=
  ∀ s : State, ∃ t, exec .tick s = .next t ∧ ∀ c : ChanIx,
    t.chan c =
      if (s.chan c).control.getLsbD 7 = false then s.chan c
      else if (s.chan c).counter ≠ 0 then
        { s.chan c with counter := BitVec.ofNat 8 ((s.chan c).counter.toNat - 1) }
      else ({ s.chan c with counter := (s.chan c).backupValue } : Channel).clock

/-- R163 with R260: TICK moves SampleTick by one; when it reaches SAMPLE_DIV it becomes 0 and one frame, mixed
from the channels as this TICK leaves them, is appended, and a buffer that is then full is handed off at once;
otherwise buffer and sink keep. The divider's phase, the order within the TICK and the flush inside it are the
spec's own choices (D10, D9, D20; log 12); frameCountOf is the count where 32 bits hold it (FrameCountIsExact). -/
def Obligations.TickSampleStep : Prop :=
  ∀ s : State, ∃ t, exec .tick s = .next t ∧
    if s.sampleTick + 1 = s.params.sampleDiv then
      t.sampleTick = 0 ∧
      if s.buf.length + 1 = s.params.bufCap then
        t.buf = [] ∧ t.sink = s.sink ++
          [⟨interleave (s.buf ++ [mix t]), frameCountOf (s.buf.length + 1), s.params.sampleRate⟩]
      else t.buf = s.buf ++ [mix t] ∧ t.sink = s.sink
    else t.sampleTick = s.sampleTick + 1 ∧ t.buf = s.buf ∧ t.sink = s.sink

/-- The frame of TICK: the parameters, MasterVolume, StereoEnabled, the waiting inputs and the reply are
unchanged, and so are every channel's Volume, FeedbackEnable, BackupValue, Control and attenuations (R161, R135,
R166). -/
def Obligations.TickLeavesSettings : Prop :=
  ∀ s : State, ∃ t, exec .tick s = .next t ∧
    t.params = s.params ∧ t.masterVolume = s.masterVolume ∧ t.stereoEnabled = s.stereoEnabled ∧
    t.inputs = s.inputs ∧ t.reply = s.reply ∧
    ∀ c : ChanIx, (t.chan c).volume = (s.chan c).volume ∧
      (t.chan c).feedbackEnable = (s.chan c).feedbackEnable ∧
      (t.chan c).backupValue = (s.chan c).backupValue ∧ (t.chan c).control = (s.chan c).control ∧
      (t.chan c).leftAtten = (s.chan c).leftAtten ∧ (t.chan c).rightAtten = (s.chan c).rightAtten

/-- R136, R162: what a TICK makes of channel c depends on channel c alone. -/
def Obligations.TickChannelsIndependent : Prop :=
  ∀ (s u : State) (c : ChanIx), s.chan c = u.chan c →
    ∃ t v, exec .tick s = .next t ∧ exec .tick u = .next v ∧ t.chan c = v.chan c

/-- R164: of an enabled channel with Counter n, the first n TICKs only count it down, and TICK number n + 1
reloads it and clocks it once; so with BackupValue B the clocks come B + 1 TICKs apart. The spec marks the rule
as derived. -/
def Obligations.ClockAfterCounterTicks : Prop :=
  ∀ (s : State) (c : ChanIx), (s.chan c).control.getLsbD 7 = true →
    s.inputs = ticks ((s.chan c).counter.toNat + 1) →
    (∀ m ≤ (s.chan c).counter.toNat, ∃ t, runSteps m s = .next t ∧
      t.chan c = { s.chan c with counter := BitVec.ofNat 8 ((s.chan c).counter.toNat - m) }) ∧
    (∃ t, runSteps ((s.chan c).counter.toNat + 1) s = .next t ∧
      t.chan c = ({ s.chan c with counter := (s.chan c).backupValue } : Channel).clock)

/-- R164, R336: from SampleTick 0, the first SAMPLE_DIV - 1 TICKs produce no sample and TICK number SAMPLE_DIV
produces exactly one frame and leaves SampleTick 0. The divider's phase is the spec's own choice (D10). -/
def Obligations.OneFramePerSampleDiv : Prop :=
  ∀ s : State, 1 ≤ s.params.sampleDiv → s.sampleTick = 0 → s.inputs = ticks s.params.sampleDiv →
    (∀ m < s.params.sampleDiv, ∃ t, runSteps m s = .next t ∧ t.sampleTick = m ∧
      emitted t = emitted s) ∧
    (∃ t f, runSteps s.params.sampleDiv s = .next t ∧ t.sampleTick = 0 ∧
      emitted t = emitted s ++ [Frame.left f, Frame.right f])

/-! ### The mixer (42_stereo_mixer.md) -/

/-- R181: each side's sum is, over the channels 0 to 3, the floor of Output times attenuation over 4 for an
enabled channel and nothing for a disabled one. The rounding is the spec's own choice (D7). -/
def Obligations.MixSumsFormula : Prop :=
  ∀ s : State,
    (mixSums s).1 = ((List.finRange 4).map fun c : Fin 4 =>
      let k := s.chan (BitVec.ofFin c)
      if k.control.getLsbD 7 then k.output.toInt * k.leftAtten.toNat / 4 else 0).sum ∧
    (mixSums s).2 = ((List.finRange 4).map fun c : Fin 4 =>
      let k := s.chan (BitVec.ofFin c)
      if k.control.getLsbD 7 then k.output.toInt * k.rightAtten.toNat / 4 else 0).sum

/-- R180, R182 and R183: each side is its sum put through the master volume and then the fold. The master volume
stage is the floor of x times MasterVolume + 1 over 16, so MasterVolume 0 passes a sixteenth and of two volumes
the larger is the louder; the fold leaves stereo as it is and in mono puts the average, truncated toward zero, on
both sides. The roundings are the spec's own choice (D7). -/
def Obligations.MasterVolumeAndFoldStages : Prop :=
  (∀ s : State, mixSides s = foldDown s.stereoEnabled
    (masterScale s.masterVolume (mixSums s).1, masterScale s.masterVolume (mixSums s).2)) ∧
  (∀ (mv : Byte) (x : Int), 16 * masterScale mv x ≤ x * (mv.toNat + 1) ∧
    x * (mv.toNat + 1) < 16 * masterScale mv x + 16) ∧
  (∀ x : Int, masterScale 0 x = x / 16) ∧
  (∀ (mv mv' : Byte) (x : Int), mv ≤ mv' → 0 ≤ x → masterScale mv x ≤ masterScale mv' x) ∧
  (∀ l r : Int, foldDown true (l, r) = (l, r)) ∧
  (∀ l r : Int, ∃ m, foldDown false (l, r) = (m, m) ∧
    if 0 ≤ l + r then 2 * m ≤ l + r ∧ l + r < 2 * m + 2 else l + r ≤ 2 * m ∧ 2 * m - 2 < l + r)

/-- R184: each side times 64, held within -32768..32767, never wrapped; the frame's left is the left side. -/
def Obligations.GainClampSaturates : Prop :=
  (∀ x : Int, (gainClamp x).toInt = min 32767 (max (-32768) (x * 64))) ∧
  (∀ s : State, (mix s).left.toInt = min 32767 (max (-32768) ((mixSides s).1 * 64)) ∧
    (mix s).right.toInt = min 32767 (max (-32768) ((mixSides s).2 * 64)))

/-- R185: the bounds of the intermediates, in every state. The spec marks the rule as derived. -/
def Obligations.MixStageBounds : Prop :=
  ∀ s : State,
    (∀ x, x = (mixSums s).1 ∨ x = (mixSums s).2 → -1920 ≤ x ∧ x ≤ 1904 ∧
      -30720 ≤ masterScale s.masterVolume x ∧ masterScale s.masterVolume x ≤ 30464) ∧
    (∀ x, x = (mixSides s).1 ∨ x = (mixSides s).2 →
      -30720 ≤ x ∧ x ≤ 30464 ∧ -1966080 ≤ x * 64 ∧ x * 64 ≤ 1949696)

/-- R185, the clamp property: with attenuations 15 and MasterVolume 255, all four channels enabled at Output 127
give exactly 32767 on both sides and at -128 exactly -32768, mono or stereo. -/
def Obligations.MixExtremesClamp : Prop :=
  ∀ (s : State) (o : Byte), o = 127 ∨ o = -128 →
    (∀ c : ChanIx, (s.chan c).control.getLsbD 7 = true ∧ (s.chan c).output = o ∧
      (s.chan c).leftAtten = 15 ∧ (s.chan c).rightAtten = 15) → s.masterVolume = 255 →
    (mix s).left.toInt = (if o = 127 then 32767 else -32768) ∧
    (mix s).right.toInt = (if o = 127 then 32767 else -32768)

/-- R181: a disabled channel contributes nothing, whatever its other fields hold: one disabled channel can be
replaced by any other disabled one and the frame is the same. -/
def Obligations.DisabledChannelNotMixed : Prop :=
  ∀ (s : State) (c : ChanIx) (k : Channel), (s.chan c).control.getLsbD 7 = false →
    k.control.getLsbD 7 = false → mix (s.setChan c k) = mix s

/-! ### The output stage (44_output_stage.md) -/

/-- R261 with R262: FRAME_END makes one hand-off of all buffered frames, interleaved, with their count and the
sample rate, and empties the buffer; nothing else changes. That it does so with an empty buffer too is the
spec's own choice (D19, log 15). -/
def Obligations.FrameEndHandsOffBuffer : Prop :=
  ∀ (s : State) (a d : Byte), decode (packWord 0b011 a d) = .frameEnd ∧
    exec .frameEnd s = .next { s with
      sink := s.sink ++ [⟨interleave s.buf, frameCountOf s.buf.length, s.params.sampleRate⟩], buf := [] }

/-- R263: the 32-bit frameCount handed off for n frames is n, for every n that 32 bits can hold; past that the spec
states no count and the model's is a free value (log 23), of which nothing is said here. -/
def Obligations.FrameCountIsExact : Prop :=
  (∀ n < 2 ^ 32, (frameCountOf n).toNat = n) ∧
  (∀ s : State, s.buf.length < 2 ^ 32 → ∃ t h, exec .frameEnd s = .next t ∧ t.sink = s.sink ++ [h] ∧
    h.frameCount.toNat = s.buf.length ∧ h.buffer.length = 2 * h.frameCount.toNat)

/-- R263: an interleaved buffer holds two samples a frame, frame k at 2k (left) and 2k + 1 (right). -/
def Obligations.InterleaveOrder : Prop :=
  ∀ frames : List Frame, (interleave frames).length = 2 * frames.length ∧
    ∀ k, (interleave frames)[2 * k]? = (frames[k]?).map Frame.left ∧
      (interleave frames)[2 * k + 1]? = (frames[k]?).map Frame.right

/-- R264: no frame is dropped, duplicated or reordered: over any event, RESET among them, what has been
delivered followed by what is buffered grows by exactly the frames the event produced. That RESET hands off
first is the spec's own choice (D21, log 16). A restore and a power cycle are no events: the first drops what was
buffered by the model's choice (log 29), the second by R310. -/
def Obligations.NoFrameLost : Prop :=
  ∀ (i : Instr) (s t : State), exec i s = .next t →
    emitted t = emitted s ++ interleave (producedBy i s)

/-- R85, R265: a step only adds to what the sink has received, by at most one hand-off, and what the sink has
received never influences the block: with any other record in its place the step answers the same. -/
def Obligations.SinkHasNoPathBack : Prop :=
  ∀ (s : State) (l : List HandOff),
    match step s with
    | .next t => ∃ new, new.length ≤ 1 ∧ t.sink = s.sink ++ new ∧
        step { s with sink := l } = .next { t with sink := l ++ new }
    | .fault f => step { s with sink := l } = .fault f
    | .refused r => step { s with sink := l } = .refused r

/-! ### Configuration, reset, snapshot -/

/-- SET_STEREO: StereoEnabled becomes data[0] and nothing else changes (R280; an event for it is the spec's own
choice D16). -/
def Obligations.SetStereoSetsTheBit : Prop :=
  (∀ a d : Byte, decode (packWord 0b100 a d) = .setStereo (d.getLsbD 0)) ∧
  (∀ (s : State) (b : Bool), exec (.setStereo b) s = .next { s with stereoEnabled := b })

/-- R41: of all events only SET_STEREO changes StereoEnabled, RESET among those that do not (D16). -/
def Obligations.OnlySetStereoChangesStereo : Prop :=
  ∀ (i : Instr) (s t : State), exec i s = .next t → t.stereoEnabled ≠ s.stereoEnabled →
    i = .setStereo t.stereoEnabled

/-- R37, R36: of all events only a WR_CTL of that channel and RESET change a channel's Control, and with it its
Enabled and Integrate flags. -/
def Obligations.OnlyControlWritesChangeFlags : Prop :=
  ∀ (i : Instr) (s t : State) (c : ChanIx), exec i s = .next t →
    (t.chan c).control ≠ (s.chan c).control → i = .wrCtl c (t.chan c).control ∨ i = .reset

/-- RESET: every channel at its seed and zeros, MasterVolume and SampleTick 0, the buffer empty; buffered frames
are handed off first, an empty buffer is not; StereoEnabled, the parameters, the waiting inputs and the reply
keep. The zeros, the hand-off and the kept StereoEnabled are the spec's own choices (D15, D21, D16; log 7, 16,
13). -/
def Obligations.ResetLeavesResetValues : Prop :=
  ∀ (s : State) (a d : Byte), decode (packWord 0b101 a d) = .reset ∧
    ∃ t, exec .reset s = .next t ∧
      (∀ c : ChanIx, t.chan c =
        { volume := 0, feedbackEnable := 0, output := 0,
          shiftRegister := BitVec.ofNat 12 s.params.lfsrSeed[c.toFin], backupValue := 0, control := 0,
          counter := 0, leftAtten := 0, rightAtten := 0 }) ∧
      t.masterVolume = 0 ∧ t.sampleTick = 0 ∧ t.buf = [] ∧
      t.sink = (if s.buf = [] then s.sink
        else s.sink ++ [⟨interleave s.buf, frameCountOf s.buf.length, s.params.sampleRate⟩]) ∧
      t.stereoEnabled = s.stereoEnabled ∧ t.params = s.params ∧ t.inputs = s.inputs ∧ t.reply = s.reply

/-- R331, R34: the state after power-on. Each ShiftRegister is its seed, non-zero; StereoEnabled is STEREO_INIT;
nothing is buffered and nothing has been handed off. The zeros are the spec's own choice (D15; log 7). -/
def Obligations.PowerOnState : Prop :=
  (∀ c : ChanIx, (State.reset.chan c).shiftRegister.toNat = State.reset.params.lfsrSeed[c.toFin] ∧
    (State.reset.chan c).shiftRegister ≠ 0 ∧ (State.reset.chan c).control = 0 ∧
    (State.reset.chan c).volume = 0 ∧ (State.reset.chan c).feedbackEnable = 0 ∧
    (State.reset.chan c).output = 0 ∧ (State.reset.chan c).backupValue = 0 ∧
    (State.reset.chan c).counter = 0 ∧ (State.reset.chan c).leftAtten = 0 ∧
    (State.reset.chan c).rightAtten = 0) ∧
  State.reset.stereoEnabled = State.reset.params.stereoInit ∧ State.reset.masterVolume = 0 ∧
  State.reset.sampleTick = 0 ∧ State.reset.buf = [] ∧ State.reset.sink = []

/-- R310, R331, R301: a power cycle with parameters outside R8 is refused, BadParameter; otherwise it leaves the
power-on state with no hand-off, so buffered frames are gone. Power off and on as one input, and that the host's
queue and the sink's record outlive it, are the model's choices (log 21, 22). -/
def Obligations.PowerCycleStartsOver : Prop :=
  ∀ (s : State) (rest : List Input), s.inputs = .powerCycle :: rest →
    step s =
      if 1 ≤ s.params.sampleDiv ∧ 1 ≤ s.params.bufCap ∧
          ∀ c : Fin 4, 1 ≤ s.params.lfsrSeed[c] ∧ s.params.lfsrSeed[c] ≤ 4095 then
        .next { State.powerOn s.params with inputs := rest, sink := s.sink }
      else .refused .badParameter

/-- R281: taking a snapshot gives the tuple back and changes no state; the tuple, as a list in its fixed order,
determines every field of the block (R283). -/
def Obligations.SnapshotHoldsTheBlock : Prop :=
  (∀ (s : State) (rest : List Input), s.inputs = .snapshot :: rest →
    step s = .next { s with inputs := rest, reply := .snapshot (snapshotOf s) }) ∧
  (∀ s u : State, snapshotList (snapshotOf s) = snapshotList (snapshotOf u) → s.params = u.params →
    SameBlock s u)

/-- R283: a snapshot of any state that meets the invariant, restored in any state of the same machine, is
accepted and gives the block of the first state again; what waits and what was delivered are not touched. That
frames buffered before the restore are not delivered by it is the model's choice (log 29, DESIGN CHOICE). -/
def Obligations.RestoreOfSnapshot : Prop :=
  ∀ (s u : State) (rest : List Input), s.Inv → u.params = s.params →
    u.inputs = .restore (snapshotOf s) :: rest →
    ∃ t, step u = .next t ∧ SameBlock s t ∧ t.inputs = rest ∧ t.reply = .nothing ∧ t.sink = u.sink

/-- R282 with the ranges of R45: a restore is refused, InvalidRestore, exactly when some field is out of its
range or BufCount is not the number of frames; otherwise it completes and the block is the tuple's. The refusal of
a field out of range is the spec's own choice (D24); the refusal of a BufCount that is in range and is not the
number of frames is the model's own deduction from the form of R281 (log 17, DEDUCED). That the frames buffered
before the restore are not handed off, so that the sink's record is the same after it, is the model's choice (log
29, DESIGN CHOICE). -/
def Obligations.RestoreRefusesOutOfRange : Prop :=
  ∀ (s : State) (x : Snapshot) (rest : List Input), s.inputs = .restore x :: rest →
    if (∀ k ∈ x.channels.toList,
          (0 ≤ k.volume ∧ k.volume ≤ 255) ∧ (0 ≤ k.feedbackEnable ∧ k.feedbackEnable ≤ 255) ∧
          (-128 ≤ k.output ∧ k.output ≤ 127) ∧ (0 ≤ k.shiftRegister ∧ k.shiftRegister ≤ 4095) ∧
          (0 ≤ k.backupValue ∧ k.backupValue ≤ 255) ∧ (0 ≤ k.control ∧ k.control ≤ 255) ∧
          (0 ≤ k.counter ∧ k.counter ≤ 255) ∧ (0 ≤ k.leftAtten ∧ k.leftAtten ≤ 15) ∧
          (0 ≤ k.rightAtten ∧ k.rightAtten ≤ 15)) ∧
        (0 ≤ x.masterVolume ∧ x.masterVolume ≤ 255) ∧
        (0 ≤ x.sampleTick ∧ x.sampleTick < s.params.sampleDiv) ∧
        (0 ≤ x.bufCount ∧ x.bufCount < s.params.bufCap) ∧ x.bufCount = x.frames.length ∧
        (∀ f ∈ x.frames, (-32768 ≤ f.1 ∧ f.1 ≤ 32767) ∧ (-32768 ≤ f.2 ∧ f.2 ≤ 32767)) then
      ∃ t, step s = .next t ∧ snapshotOf t = x ∧ t.params = s.params ∧ t.sink = s.sink
    else step s = .refused .invalidRestore

/-! ### Whole-machine invariants -/

/-- R45: every step, of whatever input, keeps SampleTick below SAMPLE_DIV, BufCount below BUF_CAP, the
parameters within R8, and every hand-off well shaped (R263). -/
def Obligations.StepKeepsInvariant : Prop :=
  ∀ s t : State, s.Inv → step s = .next t → t.Inv

/-- The state after power-on meets the invariant (R45). -/
def Obligations.ResetMeetsInvariant : Prop := State.reset.Inv

/-- R8: the parameters are fixed: no step changes them. -/
def Obligations.ParametersNeverChange : Prop :=
  ∀ s t : State, step s = .next t → t.params = s.params
end

