-- ==== Sys2Proof/Laws/Decode.lean ====
section
/-! SUPPORT. The fields of a packed word, and where each offset lies. -/

namespace Sys2Proof

/-- Taking apart a packed word gives its fields back. -/
theorem packWord_fields (op : BitVec 3) (a d : Byte) :
    opField (packWord op a d) = op ∧ addrField (packWord op a d) = a ∧
      dataField (packWord op a d) = d := by
  refine ⟨?_, ?_, ?_⟩ <;> apply BitVec.eq_of_getLsbD_eq <;> intro i hi <;>
    simp only [opField, addrField, dataField, packWord, BitVec.getLsbD_extractLsb',
      BitVec.getLsbD_append, hi, decide_true, Bool.true_and]
  · simp [show ¬ 16 + i < 8 by omega, show ¬ 16 + i - 8 < 8 by omega,
      show 16 + i - 8 - 8 = i by omega]
  · simp [show 8 + i - 8 = i by omega, hi]
  · simp [hi]

@[simp] theorem opField_packWord (op : BitVec 3) (a d : Byte) : opField (packWord op a d) = op :=
  (packWord_fields op a d).1

@[simp] theorem addrField_packWord (op : BitVec 3) (a d : Byte) : addrField (packWord op a d) = a :=
  (packWord_fields op a d).2.1

@[simp] theorem dataField_packWord (op : BitVec 3) (a d : Byte) : dataField (packWord op a d) = d :=
  (packWord_fields op a d).2.2

/-- Every word is the packing of its fields. -/
theorem packWord_of_fields (w : EventWord) :
    packWord (opField w) (addrField w) (dataField w) = w := by
  apply BitVec.eq_of_getLsbD_eq
  intro i hi
  simp only [opField, addrField, dataField, packWord, BitVec.getLsbD_append,
    BitVec.getLsbD_extractLsb']
  by_cases h0 : i < 8
  · simp [h0]
  · by_cases h1 : i - 8 < 8
    · simp [h0, h1, show 8 + (i - 8) = i by omega]
    · simp [h0, h1, show i - 8 - 8 < 3 by omega, show 16 + (i - 8 - 8) = i by omega]

/-! ### decode on packed words, one lemma per op -/

/-- decode looks at the three fields. -/
theorem decode_packWord (op : BitVec 3) (a d : Byte) :
    decode (packWord op a d) =
      match op.toNat with
      | 0 => decodeRead a
      | 1 => decodeWrite a d
      | 2 => .tick
      | 3 => .frameEnd
      | 4 => .setStereo (d.getLsbD 0)
      | 5 => .reset
      | 6 => .reserved6
      | _ => .reserved7 := by
  simp only [decode, opField_packWord, addrField_packWord, dataField_packWord] <;> rfl

@[simp] theorem decode_read (a d : Byte) : decode (packWord 0#3 a d) = decodeRead a := by
  simp [decode_packWord]

@[simp] theorem decode_write (a d : Byte) : decode (packWord 1#3 a d) = decodeWrite a d := by
  simp [decode_packWord]

@[simp] theorem decode_tick (a d : Byte) : decode (packWord 2#3 a d) = .tick := by
  simp [decode_packWord]

@[simp] theorem decode_frameEnd (a d : Byte) : decode (packWord 3#3 a d) = .frameEnd := by
  simp [decode_packWord]

@[simp] theorem decode_setStereo (a d : Byte) :
    decode (packWord 4#3 a d) = .setStereo (d.getLsbD 0) := by
  simp [decode_packWord]

@[simp] theorem decode_reset (a d : Byte) : decode (packWord 5#3 a d) = .reset := by
  simp [decode_packWord]

@[simp] theorem decode_reserved6 (a d : Byte) : decode (packWord 6#3 a d) = .reserved6 := by
  simp [decode_packWord]

@[simp] theorem decode_reserved7 (a d : Byte) : decode (packWord 7#3 a d) = .reserved7 := by
  simp [decode_packWord]

/-! ### The address map -/

@[simp] theorem locate_channelOffset (c : ChanIx) (i : BitVec 3) :
    locate (channelOffset c i) = .channel c (channelRegOf i) := by
  revert c i; decide

@[simp] theorem locate_attenOffset (c : ChanIx) (side : BitVec 1) :
    locate (attenOffset c side) = .atten c (if side = 1#1 then .right else .left) := by
  revert c side; decide

@[simp] theorem locate_masterVolume : locate 0x30#8 = .masterVolume := by decide

/-- The offsets of each unmapped stretch. -/
theorem locate_unmapped (a : Byte) :
    (offsetIn 0x28 0x2F a = true → locate a = .unmapped .from28) ∧
      (offsetIn 0x31 0x31 a = true → locate a = .unmapped .from31) ∧
      (offsetIn 0x32 0x33 a = true → locate a = .unmapped .from32) ∧
      (offsetIn 0x34 0x37 a = true → locate a = .unmapped .from34) ∧
      (offsetIn 0x38 0x3F a = true → locate a = .unmapped .from38) ∧
      (offsetIn 0x40 0x7F a = true → locate a = .unmapped .from40) ∧
      (offsetIn 0x80 0xFF a = true → locate a = .unmapped .from80) := by
  revert a; decide

/-- The offset of a mapped place. -/
def offsetOf : Location → Option Byte
  | .channel c .volume => some (channelOffset c 0)
  | .channel c .feedbackEnable => some (channelOffset c 1)
  | .channel c .output => some (channelOffset c 2)
  | .channel c .shiftLow => some (channelOffset c 3)
  | .channel c .shiftHigh => some (channelOffset c 4)
  | .channel c .backupValue => some (channelOffset c 5)
  | .channel c .control => some (channelOffset c 6)
  | .channel c .counter => some (channelOffset c 7)
  | .atten c .left => some (attenOffset c 0)
  | .atten c .right => some (attenOffset c 1)
  | .masterVolume => some 0x30
  | .unmapped _ => none

/-- A mapped place has one offset: the map's inverse. -/
theorem offsetOf_locate (a : Byte) : offsetOf (locate a) = none ∨ offsetOf (locate a) = some a := by
  revert a; decide

/-- Two offsets of the same mapped place are equal. -/
theorem locate_injective_on_mapped {a b : Byte} (h : locate a = locate b)
    (hm : offsetOf (locate a) ≠ none) : a = b := by
  rcases offsetOf_locate a with ha | ha
  · exact absurd ha hm
  · rcases offsetOf_locate b with hb | hb
    · rw [h] at hm; exact absurd hb hm
    · rw [h, hb] at ha; exact (Option.some.inj ha).symm

end Sys2Proof
end

