-- ==== Sys2Proof/Laws/State.lean ====
section
/-! SUPPORT. Each field of State after each update: no proof unfolds a record update. -/

namespace Sys2Proof.Machine

/-! ### mapFour -/

/-- mapFour is the map of the vector. -/
theorem mapFour_eq_map {α β : Type} (f : α → β) (v : Vector α 4) : mapFour f v = v.map f := by
  ext i hi
  have : i = 0 ∨ i = 1 ∨ i = 2 ∨ i = 3 := by omega
  obtain rfl | rfl | rfl | rfl := this <;> simp [mapFour]

@[simp] theorem getElem_mapFour {α β : Type} (f : α → β) (v : Vector α 4) (i : Nat) (h : i < 4) :
    (mapFour f v)[i] = f v[i] := by
  simp [mapFour_eq_map]

/-! ### answer -/

@[simp] theorem State.answer_params (s : State) (b : Byte) : (s.answer b).params = s.params := rfl
@[simp] theorem State.answer_ch (s : State) (b : Byte) : (s.answer b).ch = s.ch := rfl
@[simp] theorem State.answer_masterVolume (s : State) (b : Byte) : (s.answer b).masterVolume = s.masterVolume := rfl
@[simp] theorem State.answer_stereoEnabled (s : State) (b : Byte) : (s.answer b).stereoEnabled = s.stereoEnabled := rfl
@[simp] theorem State.answer_sampleTick (s : State) (b : Byte) : (s.answer b).sampleTick = s.sampleTick := rfl
@[simp] theorem State.answer_buf (s : State) (b : Byte) : (s.answer b).buf = s.buf := rfl
@[simp] theorem State.answer_inputs (s : State) (b : Byte) : (s.answer b).inputs = s.inputs := rfl
@[simp] theorem State.answer_reply (s : State) (b : Byte) : (s.answer b).reply = .rdata b := rfl
@[simp] theorem State.answer_sink (s : State) (b : Byte) : (s.answer b).sink = s.sink := rfl

/-! ### accept -/

@[simp] theorem State.accept_params (s : State) (rest : List Input) : (s.accept rest).params = s.params := rfl
@[simp] theorem State.accept_ch (s : State) (rest : List Input) : (s.accept rest).ch = s.ch := rfl
@[simp] theorem State.accept_masterVolume (s : State) (rest : List Input) : (s.accept rest).masterVolume = s.masterVolume := rfl
@[simp] theorem State.accept_stereoEnabled (s : State) (rest : List Input) : (s.accept rest).stereoEnabled = s.stereoEnabled := rfl
@[simp] theorem State.accept_sampleTick (s : State) (rest : List Input) : (s.accept rest).sampleTick = s.sampleTick := rfl
@[simp] theorem State.accept_buf (s : State) (rest : List Input) : (s.accept rest).buf = s.buf := rfl
@[simp] theorem State.accept_inputs (s : State) (rest : List Input) : (s.accept rest).inputs = rest := rfl
@[simp] theorem State.accept_reply (s : State) (rest : List Input) : (s.accept rest).reply = .nothing := rfl
@[simp] theorem State.accept_sink (s : State) (rest : List Input) : (s.accept rest).sink = s.sink := rfl

/-! ### setChan -/

@[simp] theorem State.setChan_params (s : State) (c : ChanIx) (k : Channel) : (s.setChan c k).params = s.params := rfl
@[simp] theorem State.setChan_ch (s : State) (c : ChanIx) (k : Channel) : (s.setChan c k).ch = s.ch.set c.toNat k c.isLt := rfl
@[simp] theorem State.setChan_masterVolume (s : State) (c : ChanIx) (k : Channel) : (s.setChan c k).masterVolume = s.masterVolume := rfl
@[simp] theorem State.setChan_stereoEnabled (s : State) (c : ChanIx) (k : Channel) : (s.setChan c k).stereoEnabled = s.stereoEnabled := rfl
@[simp] theorem State.setChan_sampleTick (s : State) (c : ChanIx) (k : Channel) : (s.setChan c k).sampleTick = s.sampleTick := rfl
@[simp] theorem State.setChan_buf (s : State) (c : ChanIx) (k : Channel) : (s.setChan c k).buf = s.buf := rfl
@[simp] theorem State.setChan_inputs (s : State) (c : ChanIx) (k : Channel) : (s.setChan c k).inputs = s.inputs := rfl
@[simp] theorem State.setChan_reply (s : State) (c : ChanIx) (k : Channel) : (s.setChan c k).reply = s.reply := rfl
@[simp] theorem State.setChan_sink (s : State) (c : ChanIx) (k : Channel) : (s.setChan c k).sink = s.sink := rfl

/-! ### modifyChan -/

@[simp] theorem State.modifyChan_params (s : State) (c : ChanIx) (f : Channel → Channel) : (s.modifyChan c f).params = s.params := rfl
@[simp] theorem State.modifyChan_ch (s : State) (c : ChanIx) (f : Channel → Channel) : (s.modifyChan c f).ch = s.ch.set c.toNat (f (s.chan c)) c.isLt := rfl
@[simp] theorem State.modifyChan_masterVolume (s : State) (c : ChanIx) (f : Channel → Channel) : (s.modifyChan c f).masterVolume = s.masterVolume := rfl
@[simp] theorem State.modifyChan_stereoEnabled (s : State) (c : ChanIx) (f : Channel → Channel) : (s.modifyChan c f).stereoEnabled = s.stereoEnabled := rfl
@[simp] theorem State.modifyChan_sampleTick (s : State) (c : ChanIx) (f : Channel → Channel) : (s.modifyChan c f).sampleTick = s.sampleTick := rfl
@[simp] theorem State.modifyChan_buf (s : State) (c : ChanIx) (f : Channel → Channel) : (s.modifyChan c f).buf = s.buf := rfl
@[simp] theorem State.modifyChan_inputs (s : State) (c : ChanIx) (f : Channel → Channel) : (s.modifyChan c f).inputs = s.inputs := rfl
@[simp] theorem State.modifyChan_reply (s : State) (c : ChanIx) (f : Channel → Channel) : (s.modifyChan c f).reply = s.reply := rfl
@[simp] theorem State.modifyChan_sink (s : State) (c : ChanIx) (f : Channel → Channel) : (s.modifyChan c f).sink = s.sink := rfl

/-! ### flush -/

@[simp] theorem flush_params (s : State) : (flush s).params = s.params := rfl
@[simp] theorem flush_ch (s : State) : (flush s).ch = s.ch := rfl
@[simp] theorem flush_masterVolume (s : State) : (flush s).masterVolume = s.masterVolume := rfl
@[simp] theorem flush_stereoEnabled (s : State) : (flush s).stereoEnabled = s.stereoEnabled := rfl
@[simp] theorem flush_sampleTick (s : State) : (flush s).sampleTick = s.sampleTick := rfl
@[simp] theorem flush_buf (s : State) : (flush s).buf = [] := rfl
@[simp] theorem flush_inputs (s : State) : (flush s).inputs = s.inputs := rfl
@[simp] theorem flush_reply (s : State) : (flush s).reply = s.reply := rfl
@[simp] theorem flush_sink (s : State) : (flush s).sink = s.sink ++ [handOffOf s] := rfl

/-! ### resetFields -/

@[simp] theorem resetFields_params (s : State) : (resetFields s).params = s.params := rfl
@[simp] theorem resetFields_ch (s : State) : (resetFields s).ch = channelsAtReset s.params := rfl
@[simp] theorem resetFields_masterVolume (s : State) : (resetFields s).masterVolume = 0x00 := rfl
@[simp] theorem resetFields_stereoEnabled (s : State) : (resetFields s).stereoEnabled = s.stereoEnabled := rfl
@[simp] theorem resetFields_sampleTick (s : State) : (resetFields s).sampleTick = 0 := rfl
@[simp] theorem resetFields_buf (s : State) : (resetFields s).buf = [] := rfl
@[simp] theorem resetFields_inputs (s : State) : (resetFields s).inputs = s.inputs := rfl
@[simp] theorem resetFields_reply (s : State) : (resetFields s).reply = s.reply := rfl
@[simp] theorem resetFields_sink (s : State) : (resetFields s).sink = s.sink := rfl

/-! ### restoreFields -/

@[simp] theorem restoreFields_params (t : Snapshot) (s : State) : (restoreFields t s).params = s.params := rfl
@[simp] theorem restoreFields_ch (t : Snapshot) (s : State) : (restoreFields t s).ch = mapFour channelOfTuple t.channels := rfl
@[simp] theorem restoreFields_masterVolume (t : Snapshot) (s : State) : (restoreFields t s).masterVolume = BitVec.ofInt 8 t.masterVolume := rfl
@[simp] theorem restoreFields_stereoEnabled (t : Snapshot) (s : State) : (restoreFields t s).stereoEnabled = t.stereoEnabled := rfl
@[simp] theorem restoreFields_sampleTick (t : Snapshot) (s : State) : (restoreFields t s).sampleTick = t.sampleTick.toNat := rfl
@[simp] theorem restoreFields_buf (t : Snapshot) (s : State) : (restoreFields t s).buf = t.frames.map fun f => ⟨BitVec.ofInt 16 f.1, BitVec.ofInt 16 f.2⟩ := rfl
@[simp] theorem restoreFields_inputs (t : Snapshot) (s : State) : (restoreFields t s).inputs = s.inputs := rfl
@[simp] theorem restoreFields_reply (t : Snapshot) (s : State) : (restoreFields t s).reply = s.reply := rfl
@[simp] theorem restoreFields_sink (t : Snapshot) (s : State) : (restoreFields t s).sink = s.sink := rfl

/-! ### powerOn -/

@[simp] theorem State.powerOn_params (p : Params) : (State.powerOn p).params = p := rfl
@[simp] theorem State.powerOn_ch (p : Params) : (State.powerOn p).ch = channelsAtReset p := rfl
@[simp] theorem State.powerOn_masterVolume (p : Params) : (State.powerOn p).masterVolume = 0x00 := rfl
@[simp] theorem State.powerOn_stereoEnabled (p : Params) : (State.powerOn p).stereoEnabled = p.stereoInit := rfl
@[simp] theorem State.powerOn_sampleTick (p : Params) : (State.powerOn p).sampleTick = 0 := rfl
@[simp] theorem State.powerOn_buf (p : Params) : (State.powerOn p).buf = [] := rfl
@[simp] theorem State.powerOn_inputs (p : Params) : (State.powerOn p).inputs = [] := rfl
@[simp] theorem State.powerOn_reply (p : Params) : (State.powerOn p).reply = .nothing := rfl
@[simp] theorem State.powerOn_sink (p : Params) : (State.powerOn p).sink = [] := rfl

/-! ### writeAt: all but `ch` and `masterVolume` -/

@[simp] theorem State.writeAt_params (s : State) (l : Location) (d : Byte) :
    (s.writeAt l d).params = s.params := by cases l <;> rfl
@[simp] theorem State.writeAt_stereoEnabled (s : State) (l : Location) (d : Byte) :
    (s.writeAt l d).stereoEnabled = s.stereoEnabled := by cases l <;> rfl
@[simp] theorem State.writeAt_sampleTick (s : State) (l : Location) (d : Byte) :
    (s.writeAt l d).sampleTick = s.sampleTick := by cases l <;> rfl
@[simp] theorem State.writeAt_buf (s : State) (l : Location) (d : Byte) :
    (s.writeAt l d).buf = s.buf := by cases l <;> rfl
@[simp] theorem State.writeAt_inputs (s : State) (l : Location) (d : Byte) :
    (s.writeAt l d).inputs = s.inputs := by cases l <;> rfl
@[simp] theorem State.writeAt_reply (s : State) (l : Location) (d : Byte) :
    (s.writeAt l d).reply = s.reply := by cases l <;> rfl
@[simp] theorem State.writeAt_sink (s : State) (l : Location) (d : Byte) :
    (s.writeAt l d).sink = s.sink := by cases l <;> rfl

/-! ### Channels -/

@[simp] theorem State.chan_setChan_self (s : State) (c : ChanIx) (k : Channel) :
    (s.setChan c k).chan c = k := by
  simp [State.chan, State.setChan]

theorem State.chan_setChan_of_ne (s : State) {c e : ChanIx} (k : Channel) (h : e ≠ c) :
    (s.setChan c k).chan e = s.chan e := by
  have hne : c.toNat ≠ e.toNat := fun heq => h (BitVec.eq_of_toNat_eq heq.symm)
  simp [State.chan, State.setChan, hne]

@[simp] theorem State.chan_modifyChan_self (s : State) (c : ChanIx) (f : Channel → Channel) :
    (s.modifyChan c f).chan c = f (s.chan c) :=
  s.chan_setChan_self c _

theorem State.chan_modifyChan_of_ne (s : State) {c e : ChanIx} (f : Channel → Channel) (h : e ≠ c) :
    (s.modifyChan c f).chan e = s.chan e :=
  s.chan_setChan_of_ne _ h

/-- Two states with the same channels through `chan` have the same `ch`. -/
theorem State.ch_ext {s t : State} (h : ∀ c, s.chan c = t.chan c) : s.ch = t.ch := by
  apply Vector.ext
  intro i hi
  have := h (BitVec.ofNat 2 i)
  have hm : i % 4 = i := Nat.mod_eq_of_lt hi
  simpa [State.chan, BitVec.toFin_ofNat, hm] using this

/-- `chan` looks at `ch` only. -/
theorem State.chan_congr {s t : State} (h : s.ch = t.ch) (c : ChanIx) : s.chan c = t.chan c := by
  simp [State.chan, h]

/-! ### tickChannels: every channel stepped, everything else kept -/

@[simp] theorem tickChannels_params (s : State) : (tickChannels s).params = s.params := rfl
@[simp] theorem tickChannels_masterVolume (s : State) : (tickChannels s).masterVolume = s.masterVolume := rfl
@[simp] theorem tickChannels_stereoEnabled (s : State) : (tickChannels s).stereoEnabled = s.stereoEnabled := rfl
@[simp] theorem tickChannels_sampleTick (s : State) : (tickChannels s).sampleTick = s.sampleTick := rfl
@[simp] theorem tickChannels_buf (s : State) : (tickChannels s).buf = s.buf := rfl
@[simp] theorem tickChannels_inputs (s : State) : (tickChannels s).inputs = s.inputs := rfl
@[simp] theorem tickChannels_reply (s : State) : (tickChannels s).reply = s.reply := rfl
@[simp] theorem tickChannels_sink (s : State) : (tickChannels s).sink = s.sink := rfl

/-- Each channel is stepped once, from its own fields (41_clock_driver.md R162). -/
@[simp] theorem chan_tickChannels (s : State) (c : ChanIx) :
    (tickChannels s).chan c = (s.chan c).step := by
  have h : c = 0 ∨ c = 1 ∨ c = 2 ∨ c = 3 := by revert c; decide
  rcases h with rfl | rfl | rfl | rfl <;>
    simp [tickChannels, State.chan_modifyChan_of_ne, State.chan_modifyChan_self]

end Sys2Proof.Machine
end

