-- ==== Sys2Proof/Laws/Ops.lean ====
section
/-! SUPPORT. One specification per shared operation: what it can answer, and in which terms later proofs see
it. -/

namespace Sys2Proof.Machine

/-! ### Arithmetic primitives -/

@[simp] theorem byte8_sext8 (b : Byte) : byte8 (sext8 b) = b := by
  simp [byte8, sext8]

theorem sext8_bounds (b : Byte) : -128 ≤ sext8 b ∧ sext8 b ≤ 127 := by
  have h1 := BitVec.le_toInt (x := b)
  have h2 := BitVec.toInt_lt (x := b)
  simp only [sext8]
  omega

/-- asr is the floor of the quotient. -/
theorem asr_eq_ediv (x : Int) (k : Nat) : asr x k = x / 2 ^ k := by
  rw [asr, Int.fdiv_eq_ediv_of_nonneg x (by positivity)]

theorem clampTo_bounds {lo hi : Int} (h : lo ≤ hi) (x : Int) :
    lo ≤ clampTo lo hi x ∧ clampTo lo hi x ≤ hi := by
  simp only [clampTo]
  omega

/-- sat8, seen as a signed number. -/
theorem sat8_toInt (x : Int) : (sat8 x).toInt = min 127 (max (-128) x) := by
  have h := clampTo_bounds (show (-128 : Int) ≤ 127 by decide) x
  have e : (sat8 x).toInt = clampTo (-128) 127 x := by
    rw [sat8, byte8, BitVec.toInt_ofInt]
    exact Int.bmod_eq_of_le (by omega) (by omega)
  exact e

/-- sat16, seen as a signed number. -/
theorem sat16_toInt (x : Int) : (sat16 x).toInt = min 32767 (max (-32768) x) := by
  have h := clampTo_bounds (show (-32768 : Int) ≤ 32767 by decide) x
  have e : (sat16 x).toInt = clampTo (-32768) 32767 x := by
    rw [sat16, BitVec.toInt_ofInt]
    exact Int.bmod_eq_of_le (by omega) (by omega)
  exact e

/-! ### Parameters -/

/-- The check of the parameters is the constraint of R8. -/
theorem paramsOk_iff (p : Params) : paramsOk p = true ↔
    1 ≤ p.sampleDiv ∧ 1 ≤ p.bufCap ∧ ∀ x ∈ p.lfsrSeed.toList, 1 ≤ x ∧ x ≤ 4095 := by
  simp only [paramsOk, Bool.and_eq_true, decide_eq_true_eq, List.all_eq_true, and_assoc]

/-! ### Output stage -/

@[simp] theorem interleave_nil : interleave [] = [] := rfl

@[simp] theorem interleave_cons (f : Frame) (fs : List Frame) :
    interleave (f :: fs) = f.left :: f.right :: interleave fs := rfl

@[simp] theorem interleave_append (fs gs : List Frame) :
    interleave (fs ++ gs) = interleave fs ++ interleave gs := by
  simp [interleave]

@[simp] theorem interleave_length (fs : List Frame) : (interleave fs).length = 2 * fs.length := by
  induction fs with
  | nil => rfl
  | cons f fs ih => simp [ih]; omega

/-- A count that 32 bits hold is delivered as it is (R263). -/
theorem frameCountOf_of_lt {n : Nat} (h : n < 2 ^ 32) : frameCountOf n = BitVec.ofNat 32 n := if_pos h

/-- A hand-off of a buffer of at most BUF_CAP frames is well shaped. -/
theorem handOffOf_ok (s : State) (h : s.bufCount ≤ s.params.bufCap) : (handOffOf s).Ok s.params := by
  have len : (handOffOf s).buffer.length = 2 * s.bufCount := by simp [handOffOf, State.bufCount]
  refine ⟨⟨_, len⟩, by omega, fun hlt => ?_, rfl⟩
  have hlt' : s.bufCount < 2 ^ 32 := by omega
  have count : (handOffOf s).frameCount = BitVec.ofNat 32 s.bufCount := frameCountOf_of_lt hlt'
  rw [len, count, BitVec.toNat_ofNat, Nat.mod_eq_of_lt hlt']
  omega

/-- A flush moves the buffered samples to the sink: none is lost. -/
@[simp] theorem emitted_flush (s : State) : emitted (flush s) = emitted s := by
  simp [emitted, handOffOf]

/-- Everything AppendFrame can do: the frame fills the buffer and one hand-off empties it, or it stays
buffered. -/
theorem appendFrame_cases (s : State) (f : Frame) :
    (s.bufCount + 1 = s.params.bufCap ∧
      appendFrame s f = flush { s with buf := s.buf ++ [f] }) ∨
    (s.bufCount + 1 ≠ s.params.bufCap ∧ appendFrame s f = { s with buf := s.buf ++ [f] }) := by
  by_cases h : s.bufCount + 1 = s.params.bufCap
  · exact .inl ⟨h, by simp_all [appendFrame, State.bufCount]⟩
  · exact .inr ⟨h, by simp_all [appendFrame, State.bufCount]⟩

/-- Everything SampleStep can do: the divider counts on, or it starts over and a frame is appended. -/
theorem sampleStep_cases (s : State) :
    (s.sampleTick + 1 = s.params.sampleDiv ∧
      sampleStep s = appendFrame { s with sampleTick := 0 } (mix { s with sampleTick := 0 })) ∨
    (s.sampleTick + 1 ≠ s.params.sampleDiv ∧
      sampleStep s = { s with sampleTick := s.sampleTick + 1 }) := by
  by_cases h : s.sampleTick + 1 = s.params.sampleDiv
  · exact .inl ⟨h, by simp_all [sampleStep]⟩
  · exact .inr ⟨h, by simp_all [sampleStep]⟩

/-- AppendFrame writes the buffer and the sink only. -/
theorem appendFrame_eq (s : State) (f : Frame) :
    ∃ b l, appendFrame s f = { s with buf := b, sink := l } := by
  rcases appendFrame_cases s f with ⟨-, h⟩ | ⟨-, h⟩
  · exact ⟨[], _, by rw [h]; rfl⟩
  · exact ⟨_, s.sink, h⟩

/-- SampleStep writes SampleTick, the buffer and the sink only. -/
theorem sampleStep_eq (s : State) :
    ∃ n b l, sampleStep s = { s with sampleTick := n, buf := b, sink := l } := by
  rcases sampleStep_cases s with ⟨-, h⟩ | ⟨-, h⟩
  · obtain ⟨b, l, e⟩ := appendFrame_eq { s with sampleTick := 0 } (mix { s with sampleTick := 0 })
    exact ⟨0, b, l, by rw [h, e]⟩
  · exact ⟨_, s.buf, s.sink, h⟩

/-- SampleStep leaves the channels alone. -/
@[simp] theorem sampleStep_ch (s : State) : (sampleStep s).ch = s.ch := by
  obtain ⟨n, b, l, h⟩ := sampleStep_eq s
  rw [h]

/-- The mix looks at the channels, MasterVolume and StereoEnabled only. -/
theorem mix_congr {s t : State} (hc : s.ch = t.ch) (hm : s.masterVolume = t.masterVolume)
    (he : s.stereoEnabled = t.stereoEnabled) : mix s = mix t := by
  simp [mix, mixSides, mixSums, hc, hm, he]

/-! ### The channel operations: what each leaves alone -/

/-- ClockChannel writes ShiftRegister and Output only. -/
theorem Channel.clock_eq (k : Channel) :
    ∃ o, k.clock = { k with shiftRegister := k.lfsrShift.shiftRegister, output := o } := by
  by_cases h : k.integrate = true
  · exact ⟨k.lfsrShift.updateIntegrate.output, by
      simp [Channel.clock, Channel.lfsrShift, Channel.updateIntegrate, Channel.integrate] at h ⊢
      simp [h]⟩
  · exact ⟨k.lfsrShift.updateDirect.output, by
      simp [Channel.clock, Channel.lfsrShift, Channel.updateDirect, Channel.integrate] at h ⊢
      simp [h]⟩

/-- Everything ChannelStep can do. -/
theorem Channel.step_cases (k : Channel) :
    (k.enabled = false ∧ k.step = k) ∨
    (k.enabled = true ∧ k.counter ≠ 0 ∧ k.step = { k with counter := k.counter - 1 }) ∨
    (k.enabled = true ∧ k.counter = 0 ∧
      k.step = ({ k with counter := k.backupValue } : Channel).clock) := by
  cases he : k.enabled
  · exact .inl ⟨rfl, by simp [Channel.step, he]⟩
  · by_cases hc : k.counter = 0
    · exact .inr (.inr ⟨rfl, hc, by simp [Channel.step, he, hc]⟩)
    · exact .inr (.inl ⟨rfl, hc, by simp [Channel.step, he]; exact fun h => absurd h hc⟩)

/-- ChannelStep writes Counter, ShiftRegister and Output only. -/
theorem Channel.step_eq (k : Channel) :
    ∃ n r o, k.step = { k with counter := n, shiftRegister := r, output := o } := by
  rcases k.step_cases with ⟨-, h⟩ | ⟨-, -, h⟩ | ⟨-, -, h⟩
  · exact ⟨k.counter, k.shiftRegister, k.output, h⟩
  · exact ⟨_, k.shiftRegister, k.output, h⟩
  · obtain ⟨o, e⟩ := Channel.clock_eq { k with counter := k.backupValue }
    exact ⟨_, _, o, by rw [h, e]⟩

/-! ### The step -/

/-- Everything a step can be. -/
theorem step_cases (s : State) :
    (s.inputs = [] ∧ step s = .next s) ∨
    (∃ x rest, s.inputs = x :: rest ∧ step s = deliver x (s.accept rest)) := by
  cases h : s.inputs with
  | nil => exact .inl ⟨rfl, by simp [step, advance, h]⟩
  | cons x rest => exact .inr ⟨x, rest, rfl, by simp [step, advance, h]⟩

/-- One more step after k steps. -/
theorem runSteps_succ (k : Nat) (s t : State) (h : runSteps k s = .next t) :
    runSteps (k + 1) s = step t := by
  induction k generalizing s with
  | zero =>
    cases h
    simp only [runSteps]
    cases step t <;> rfl
  | succ k ih =>
    rw [runSteps] at h ⊢
    cases hs : step s with
    | next u => rw [hs] at h; exact ih u h
    | fault f => exact nomatch f
    | refused r => rw [hs] at h; cases h

/-- Everything a snapshot restore can do. -/
theorem restore_cases (t : Snapshot) (s : State) :
    (snapshotOk s.params t = true ∧ restore t s = .next (restoreFields t s)) ∨
    (snapshotOk s.params t = false ∧ restore t s = .refused .invalidRestore) := by
  cases h : snapshotOk s.params t
  · exact .inr ⟨rfl, by simp [restore, h]⟩
  · exact .inl ⟨rfl, by simp [restore, h]⟩

/-- Everything a power cycle can do. -/
theorem powerCycle_cases (s : State) :
    (paramsOk s.params = true ∧ powerCycle s =
      .next { State.powerOn s.params with inputs := s.inputs, sink := s.sink }) ∨
    (paramsOk s.params = false ∧ powerCycle s = .refused .badParameter) := by
  cases h : paramsOk s.params
  · exact .inr ⟨rfl, by simp [powerCycle, h]⟩
  · exact .inl ⟨rfl, by simp [powerCycle, h]⟩

/-- What an event's meaning can be, by its kind: a READ answers and changes nothing else, a WRITE writes one
place (Control only if it is WR_CTL), and the six others are their own operations. -/
theorem exec_cases (i : Instr) (s : State) :
    (i ≠ .tick ∧ ∃ l, exec i s = .next (s.answer (s.readAt l))) ∨
    (i ≠ .tick ∧ ∃ l d, (∀ c, l = .channel c .control → i = .wrCtl c d) ∧
      exec i s = .next (s.writeAt l d)) ∨
    (i = .tick ∧ exec i s = .next (sampleStep (tickChannels s))) ∨
    (i = .frameEnd ∧ exec i s = .next (flush s)) ∨
    (∃ b, i = .setStereo b ∧ exec i s = .next { s with stereoEnabled := b }) ∨
    (i = .reset ∧ exec i s = .next (resetFields (if s.bufCount > 0 then flush s else s))) ∨
    ((i = .reserved6 ∨ i = .reserved7) ∧ exec i s = .refused .reservedEvent) := by
  cases i with
  | tick => exact .inr (.inr (.inl ⟨rfl, rfl⟩))
  | frameEnd => exact .inr (.inr (.inr (.inl ⟨rfl, rfl⟩)))
  | setStereo b => exact .inr (.inr (.inr (.inr (.inl ⟨b, rfl, rfl⟩))))
  | reset => exact .inr (.inr (.inr (.inr (.inr (.inl ⟨rfl, rfl⟩)))))
  | reserved6 => exact .inr (.inr (.inr (.inr (.inr (.inr ⟨.inl rfl, rfl⟩)))))
  | reserved7 => exact .inr (.inr (.inr (.inr (.inr (.inr ⟨.inr rfl, rfl⟩)))))
  | rdVol _ | rdFben _ | rdOut _ | rdSrlo _ | rdSrhi _ | rdBkup _ | rdCtl _ | rdCnt _ | rdAttl _
  | rdAttr _ | rdMvol | rdUnmapped28 _ | rdUnmapped31 _ | rdUnmapped32 _ | rdUnmapped34 _
  | rdUnmapped38 _ | rdUnmapped40 _ | rdUnmapped80 _ =>
    exact .inl ⟨nofun, _, rfl⟩
  | wrCtl c d => exact .inr (.inl ⟨nofun, _, d, (fun _ h => by cases h; rfl), rfl⟩)
  | wrVol _ _ | wrFben _ _ | wrOut _ _ | wrSrlo _ _ | wrSrhi _ _ | wrBkup _ _ | wrCnt _ _
  | wrAttl _ _ | wrAttr _ _ | wrMvol _ | wrUnmapped28 _ | wrUnmapped31 _ | wrUnmapped32 _
  | wrUnmapped34 _ | wrUnmapped38 _ | wrUnmapped40 _ | wrUnmapped80 _ =>
    exact .inr (.inl ⟨nofun, _, _, (fun _ h => by cases h), rfl⟩)

end Sys2Proof.Machine
end

