-- ==== Sys2Proof/Laws/PerInstr.lean ====
section
/-! SUPPORT. Facts about every event as syntax, one lemma per constructor. EncodeRow: the word of a well-formed
event selects the event's own row of the opcode table (30_encoding.md R107). -/

namespace Sys2Proof.Laws.EncodeRow

/-- The word of the event, if it is well formed, selects its row. -/
def Statement (i : Instr) : Prop := i.wellFormed = true → (opcodeRow i).selects (encode i) = true

/-- A row whose mask has no data bits looks at op and addr only. -/
theorem selects_packWord {mop : BitVec 3} {ma : Byte} {vop : BitVec 3} {va : Byte}
    (op : BitVec 3) (a d : Byte) (ho : op &&& mop = vop) (ha : a &&& ma = va) :
    (OpcodeRow.mk (packWord mop ma 0) (packWord vop va 0)).selects (packWord op a d) = true := by
  subst ho ha
  simp only [OpcodeRow.selects, beq_iff_eq, packWord]
  apply BitVec.eq_of_getLsbD_eq
  intro i hi
  simp only [BitVec.getLsbD_and, BitVec.getLsbD_append]
  by_cases h0 : i < 8
  · simp [h0]
  · by_cases h1 : i - 8 < 8 <;> simp [h0, h1]

/-- The fixed bits of a channel register's offset. -/
theorem channelOffset_mask (c : ChanIx) (i : BitVec 3) :
    channelOffset c i &&& 0xE7 = i.setWidth 8 := by
  revert c i; decide

/-- The fixed bits of an attenuation register's offset. -/
theorem attenOffset_mask (c : ChanIx) (side : BitVec 1) :
    attenOffset c side &&& 0xF9 = 0x20 ||| side.setWidth 8 := by
  revert c side; decide

/-- The fixed bits of the offsets of each unmapped row. -/
theorem unmapped_mask (a : Byte) :
    (offsetIn 0x28 0x2F a = true → a &&& 0xF8 = 0x28) ∧
      (offsetIn 0x31 0x31 a = true → a &&& 0xFF = 0x31) ∧
      (offsetIn 0x32 0x33 a = true → a &&& 0xFE = 0x32) ∧
      (offsetIn 0x34 0x37 a = true → a &&& 0xFC = 0x34) ∧
      (offsetIn 0x38 0x3F a = true → a &&& 0xF8 = 0x38) ∧
      (offsetIn 0x40 0x7F a = true → a &&& 0xC0 = 0x40) ∧
      (offsetIn 0x80 0xFF a = true → a &&& 0x80 = 0x80) := by
  revert a; decide

theorem rdVol (c : ChanIx) : Statement (.rdVol c) := fun _ =>
  selects_packWord (mop := 0b111) (ma := 0xE7) (vop := 0b000) (va := 0x00) _ _ _ rfl (channelOffset_mask c 0)

theorem rdFben (c : ChanIx) : Statement (.rdFben c) := fun _ =>
  selects_packWord (mop := 0b111) (ma := 0xE7) (vop := 0b000) (va := 0x01) _ _ _ rfl (channelOffset_mask c 1)

theorem rdOut (c : ChanIx) : Statement (.rdOut c) := fun _ =>
  selects_packWord (mop := 0b111) (ma := 0xE7) (vop := 0b000) (va := 0x02) _ _ _ rfl (channelOffset_mask c 2)

theorem rdSrlo (c : ChanIx) : Statement (.rdSrlo c) := fun _ =>
  selects_packWord (mop := 0b111) (ma := 0xE7) (vop := 0b000) (va := 0x03) _ _ _ rfl (channelOffset_mask c 3)

theorem rdSrhi (c : ChanIx) : Statement (.rdSrhi c) := fun _ =>
  selects_packWord (mop := 0b111) (ma := 0xE7) (vop := 0b000) (va := 0x04) _ _ _ rfl (channelOffset_mask c 4)

theorem rdBkup (c : ChanIx) : Statement (.rdBkup c) := fun _ =>
  selects_packWord (mop := 0b111) (ma := 0xE7) (vop := 0b000) (va := 0x05) _ _ _ rfl (channelOffset_mask c 5)

theorem rdCtl (c : ChanIx) : Statement (.rdCtl c) := fun _ =>
  selects_packWord (mop := 0b111) (ma := 0xE7) (vop := 0b000) (va := 0x06) _ _ _ rfl (channelOffset_mask c 6)

theorem rdCnt (c : ChanIx) : Statement (.rdCnt c) := fun _ =>
  selects_packWord (mop := 0b111) (ma := 0xE7) (vop := 0b000) (va := 0x07) _ _ _ rfl (channelOffset_mask c 7)

theorem rdAttl (c : ChanIx) : Statement (.rdAttl c) := fun _ =>
  selects_packWord (mop := 0b111) (ma := 0xF9) (vop := 0b000) (va := 0x20) _ _ _ rfl (attenOffset_mask c 0)

theorem rdAttr (c : ChanIx) : Statement (.rdAttr c) := fun _ =>
  selects_packWord (mop := 0b111) (ma := 0xF9) (vop := 0b000) (va := 0x21) _ _ _ rfl (attenOffset_mask c 1)

theorem rdMvol : Statement .rdMvol := fun _ =>
  selects_packWord (mop := 0b111) (ma := 0xFF) (vop := 0b000) (va := 0x30) _ _ _ rfl rfl

theorem rdUnmapped28 (a : Byte) : Statement (.rdUnmapped28 a) := fun h =>
  selects_packWord (mop := 0b111) (ma := 0xF8) (vop := 0b000) (va := 0x28) _ _ _ rfl ((unmapped_mask a).1 h)

theorem rdUnmapped31 (a : Byte) : Statement (.rdUnmapped31 a) := fun h =>
  selects_packWord (mop := 0b111) (ma := 0xFF) (vop := 0b000) (va := 0x31) _ _ _ rfl ((unmapped_mask a).2.1 h)

theorem rdUnmapped32 (a : Byte) : Statement (.rdUnmapped32 a) := fun h =>
  selects_packWord (mop := 0b111) (ma := 0xFE) (vop := 0b000) (va := 0x32) _ _ _ rfl ((unmapped_mask a).2.2.1 h)

theorem rdUnmapped34 (a : Byte) : Statement (.rdUnmapped34 a) := fun h =>
  selects_packWord (mop := 0b111) (ma := 0xFC) (vop := 0b000) (va := 0x34) _ _ _ rfl ((unmapped_mask a).2.2.2.1 h)

theorem rdUnmapped38 (a : Byte) : Statement (.rdUnmapped38 a) := fun h =>
  selects_packWord (mop := 0b111) (ma := 0xF8) (vop := 0b000) (va := 0x38) _ _ _ rfl ((unmapped_mask a).2.2.2.2.1 h)

theorem rdUnmapped40 (a : Byte) : Statement (.rdUnmapped40 a) := fun h =>
  selects_packWord (mop := 0b111) (ma := 0xC0) (vop := 0b000) (va := 0x40) _ _ _ rfl ((unmapped_mask a).2.2.2.2.2.1 h)

theorem rdUnmapped80 (a : Byte) : Statement (.rdUnmapped80 a) := fun h =>
  selects_packWord (mop := 0b111) (ma := 0x80) (vop := 0b000) (va := 0x80) _ _ _ rfl ((unmapped_mask a).2.2.2.2.2.2 h)

theorem wrVol (c : ChanIx) (d : Byte) : Statement (.wrVol c d) := fun _ =>
  selects_packWord (mop := 0b111) (ma := 0xE7) (vop := 0b001) (va := 0x00) _ _ _ rfl (channelOffset_mask c 0)

theorem wrFben (c : ChanIx) (d : Byte) : Statement (.wrFben c d) := fun _ =>
  selects_packWord (mop := 0b111) (ma := 0xE7) (vop := 0b001) (va := 0x01) _ _ _ rfl (channelOffset_mask c 1)

theorem wrOut (c : ChanIx) (d : Byte) : Statement (.wrOut c d) := fun _ =>
  selects_packWord (mop := 0b111) (ma := 0xE7) (vop := 0b001) (va := 0x02) _ _ _ rfl (channelOffset_mask c 2)

theorem wrSrlo (c : ChanIx) (d : Byte) : Statement (.wrSrlo c d) := fun _ =>
  selects_packWord (mop := 0b111) (ma := 0xE7) (vop := 0b001) (va := 0x03) _ _ _ rfl (channelOffset_mask c 3)

theorem wrSrhi (c : ChanIx) (d : Byte) : Statement (.wrSrhi c d) := fun _ =>
  selects_packWord (mop := 0b111) (ma := 0xE7) (vop := 0b001) (va := 0x04) _ _ _ rfl (channelOffset_mask c 4)

theorem wrBkup (c : ChanIx) (d : Byte) : Statement (.wrBkup c d) := fun _ =>
  selects_packWord (mop := 0b111) (ma := 0xE7) (vop := 0b001) (va := 0x05) _ _ _ rfl (channelOffset_mask c 5)

theorem wrCtl (c : ChanIx) (d : Byte) : Statement (.wrCtl c d) := fun _ =>
  selects_packWord (mop := 0b111) (ma := 0xE7) (vop := 0b001) (va := 0x06) _ _ _ rfl (channelOffset_mask c 6)

theorem wrCnt (c : ChanIx) (d : Byte) : Statement (.wrCnt c d) := fun _ =>
  selects_packWord (mop := 0b111) (ma := 0xE7) (vop := 0b001) (va := 0x07) _ _ _ rfl (channelOffset_mask c 7)

theorem wrAttl (c : ChanIx) (d : Byte) : Statement (.wrAttl c d) := fun _ =>
  selects_packWord (mop := 0b111) (ma := 0xF9) (vop := 0b001) (va := 0x20) _ _ _ rfl (attenOffset_mask c 0)

theorem wrAttr (c : ChanIx) (d : Byte) : Statement (.wrAttr c d) := fun _ =>
  selects_packWord (mop := 0b111) (ma := 0xF9) (vop := 0b001) (va := 0x21) _ _ _ rfl (attenOffset_mask c 1)

theorem wrMvol (d : Byte) : Statement (.wrMvol d) := fun _ =>
  selects_packWord (mop := 0b111) (ma := 0xFF) (vop := 0b001) (va := 0x30) _ _ _ rfl rfl

theorem wrUnmapped28 (w : UnmappedWrite) : Statement (.wrUnmapped28 w) := fun h =>
  selects_packWord (mop := 0b111) (ma := 0xF8) (vop := 0b001) (va := 0x28) _ _ _ rfl ((unmapped_mask w.offset).1 h)

theorem wrUnmapped31 (w : UnmappedWrite) : Statement (.wrUnmapped31 w) := fun h =>
  selects_packWord (mop := 0b111) (ma := 0xFF) (vop := 0b001) (va := 0x31) _ _ _ rfl ((unmapped_mask w.offset).2.1 h)

theorem wrUnmapped32 (w : UnmappedWrite) : Statement (.wrUnmapped32 w) := fun h =>
  selects_packWord (mop := 0b111) (ma := 0xFE) (vop := 0b001) (va := 0x32) _ _ _ rfl ((unmapped_mask w.offset).2.2.1 h)

theorem wrUnmapped34 (w : UnmappedWrite) : Statement (.wrUnmapped34 w) := fun h =>
  selects_packWord (mop := 0b111) (ma := 0xFC) (vop := 0b001) (va := 0x34) _ _ _ rfl ((unmapped_mask w.offset).2.2.2.1 h)

theorem wrUnmapped38 (w : UnmappedWrite) : Statement (.wrUnmapped38 w) := fun h =>
  selects_packWord (mop := 0b111) (ma := 0xF8) (vop := 0b001) (va := 0x38) _ _ _ rfl ((unmapped_mask w.offset).2.2.2.2.1 h)

theorem wrUnmapped40 (w : UnmappedWrite) : Statement (.wrUnmapped40 w) := fun h =>
  selects_packWord (mop := 0b111) (ma := 0xC0) (vop := 0b001) (va := 0x40) _ _ _ rfl ((unmapped_mask w.offset).2.2.2.2.2.1 h)

theorem wrUnmapped80 (w : UnmappedWrite) : Statement (.wrUnmapped80 w) := fun h =>
  selects_packWord (mop := 0b111) (ma := 0x80) (vop := 0b001) (va := 0x80) _ _ _ rfl ((unmapped_mask w.offset).2.2.2.2.2.2 h)

theorem tick : Statement .tick := fun _ =>
  selects_packWord (mop := 0b111) (ma := 0x00) (vop := 0b010) (va := 0x00) _ _ _ rfl rfl

theorem frameEnd : Statement .frameEnd := fun _ =>
  selects_packWord (mop := 0b111) (ma := 0x00) (vop := 0b011) (va := 0x00) _ _ _ rfl rfl

theorem setStereo (b : Bool) : Statement (.setStereo b) := fun _ =>
  selects_packWord (mop := 0b111) (ma := 0x00) (vop := 0b100) (va := 0x00) _ _ _ rfl rfl

theorem reset : Statement .reset := fun _ =>
  selects_packWord (mop := 0b111) (ma := 0x00) (vop := 0b101) (va := 0x00) _ _ _ rfl rfl

theorem reserved6 : Statement .reserved6 := fun _ =>
  selects_packWord (mop := 0b111) (ma := 0x00) (vop := 0b110) (va := 0x00) _ _ _ rfl rfl

theorem reserved7 : Statement .reserved7 := fun _ =>
  selects_packWord (mop := 0b111) (ma := 0x00) (vop := 0b111) (va := 0x00) _ _ _ rfl rfl

end Sys2Proof.Laws.EncodeRow
end

