-- ==== Sys2Proof/Laws/Window.lean ====
section
/-! SUPPORT. The two halves of ShiftRegister as the window splits it (20_memory.md R76), and the four-bit
registers on the byte-wide bus. -/

namespace Sys2Proof.Machine

/-- A low-byte write, bit by bit: bits 7:0 come from d, bits 11:8 are kept. -/
theorem Channel.writeLow_getLsbD (k : Channel) (d : Byte) (i : Nat) (hi : i < 12) :
    (k.writeReg .shiftLow d).shiftRegister.getLsbD i =
      if i < 8 then d.getLsbD i else k.shiftRegister.getLsbD i := by
  have h : (k.writeReg .shiftLow d).shiftRegister = k.shiftRegister.extractLsb' 8 4 ++ d := rfl
  rw [h, BitVec.getLsbD_append, BitVec.getLsbD_extractLsb']
  by_cases h8 : i < 8
  · simp [h8]
  · simp [h8, show i - 8 < 4 by omega, show 8 + (i - 8) = i by omega]

/-- A high-nibble write, bit by bit: bits 11:8 come from d[3:0], bits 7:0 are kept. -/
theorem Channel.writeHigh_getLsbD (k : Channel) (d : Byte) (i : Nat) (hi : i < 12) :
    (k.writeReg .shiftHigh d).shiftRegister.getLsbD i =
      if i < 8 then k.shiftRegister.getLsbD i else d.getLsbD (i - 8) := by
  have h : (k.writeReg .shiftHigh d).shiftRegister =
      d.extractLsb' 0 4 ++ k.shiftRegister.extractLsb' 0 8 := rfl
  rw [h, BitVec.getLsbD_append, BitVec.getLsbD_extractLsb', BitVec.getLsbD_extractLsb']
  by_cases h8 : i < 8
  · simp [h8]
  · simp [h8, show i - 8 < 4 by omega]

/-- The low half is read bit by bit. -/
theorem Channel.readLow_getLsbD (k : Channel) (i : Nat) (hi : i < 8) :
    (k.readReg .shiftLow).getLsbD i = k.shiftRegister.getLsbD i := by
  simp [Channel.readReg, hi]

/-- The high nibble is read bit by bit; bits 7:4 are 0. -/
theorem Channel.readHigh_getLsbD (k : Channel) (i : Nat) (hi : i < 8) :
    (k.readReg .shiftHigh).getLsbD i = (decide (i < 4) && k.shiftRegister.getLsbD (8 + i)) := by
  simp [Channel.readReg, zext8, hi]

/-- Four bits kept and read back are the byte masked. -/
theorem zext8_lowNibble (d : Byte) : zext8 (d.extractLsb' 0 4) = d &&& 0x0F := by
  revert d; decide

/-- A register written and read in the same channel: masked for the high nibble, whole otherwise. -/
theorem Channel.readReg_writeReg_self (k : Channel) (r : ChannelReg) (d : Byte) :
    (k.writeReg r d).readReg r = if r = .shiftHigh then d &&& 0x0F else d := by
  cases r with
  | volume | feedbackEnable | backupValue | control | counter => rfl
  | output => simp [Channel.readReg, Channel.writeReg, byte8, sext8]
  | shiftLow =>
    apply BitVec.eq_of_getLsbD_eq
    intro i hi
    rw [Channel.readLow_getLsbD _ _ hi, Channel.writeLow_getLsbD _ _ _ (by omega)]
    simp [hi]
  | shiftHigh =>
    rw [if_pos rfl, ← zext8_lowNibble]
    apply BitVec.eq_of_getLsbD_eq
    intro i hi
    rw [Channel.readHigh_getLsbD _ _ hi]
    by_cases h4 : i < 4
    · rw [Channel.writeHigh_getLsbD _ _ _ (by omega)]
      simp [zext8, hi, h4]
    · simp [zext8, h4]

/-- A register written leaves the channel's other registers as they read. -/
theorem Channel.readReg_writeReg_of_ne (k : Channel) {r q : ChannelReg} (d : Byte) (h : q ≠ r) :
    (k.writeReg r d).readReg q = k.readReg q := by
  by_cases hl : r = .shiftLow ∧ q = .shiftHigh
  · obtain ⟨rfl, rfl⟩ := hl
    apply BitVec.eq_of_getLsbD_eq
    intro i hi
    rw [Channel.readHigh_getLsbD _ _ hi, Channel.readHigh_getLsbD _ _ hi]
    by_cases h4 : i < 4
    · rw [Channel.writeLow_getLsbD _ _ _ (by omega)]
      simp
    · simp [h4]
  · by_cases hh : r = .shiftHigh ∧ q = .shiftLow
    · obtain ⟨rfl, rfl⟩ := hh
      apply BitVec.eq_of_getLsbD_eq
      intro i hi
      rw [Channel.readLow_getLsbD _ _ hi, Channel.readLow_getLsbD _ _ hi,
        Channel.writeHigh_getLsbD _ _ _ (by omega)]
      simp [hi]
    · cases r <;> cases q <;> first
        | rfl
        | exact absurd rfl h
        | exact absurd ⟨rfl, rfl⟩ hl
        | exact absurd ⟨rfl, rfl⟩ hh

end Sys2Proof.Machine
end

