-- ==== Sys2Proof/Tests/Slice0.lean ====
section
/-! SUPPORT. Small tests of one step each, their expected values taken from the spec (95_test_vectors.md unless
another file is named), and a witness for every statement that has hypotheses. -/

namespace Sys2Proof.Tests

open Sys2Proof.Machine

/-! ### Helpers -/

/-- The state an outcome leaves, if it is a next state. -/
def after (r : Result) : Option State :=
  match r with
  | .next s => some s
  | .fault _ => none
  | .refused _ => none

/-- The refusal of an outcome, if it is one. -/
def refusalOf (r : Result) : Option Refusal :=
  match r with
  | .next _ => none
  | .fault _ => none
  | .refused x => some x

/-- Parameters with the given divider and capacity, every seed 0x001 (section 1's convention). -/
def par (div cap : Nat) : Params := ⟨div, cap, 48000, #v[1, 1, 1, 1], true, 0⟩

/-- The state after power-on, SAMPLE_DIV 4 and BUF_CAP 2 (section 10's configuration). -/
def base : State := State.powerOn (par 4 2)

/-- Channel 0 of V-CLK-9: Volume 0x40, tap 0, LeftAtten 15, enabled, direct. -/
def kClk9 : Channel := ⟨0x40, 0x01, 0, 0x001, 2, 0x80, 0, 15, 0⟩

/-- An enabled channel with Output o and the two attenuations, for the mixer vectors. -/
def kMix (o : Byte) (l r : Nibble) : Channel := ⟨0, 0, o, 1, 0, 0x80, 0, l, r⟩

/-- base with channel 0 replaced. -/
def with0 (k : Channel) : State := base.setChan 0 k

/-! ### WellFormed: an ill-formed term for each check, refused -/

theorem test_illformed_rd28 : (Instr.rdUnmapped28 0x30).wellFormed = false := by decide
theorem test_illformed_rd31 : (Instr.rdUnmapped31 0x30).wellFormed = false := by decide
theorem test_illformed_rd32 : (Instr.rdUnmapped32 0x34).wellFormed = false := by decide
theorem test_illformed_rd34 : (Instr.rdUnmapped34 0x33).wellFormed = false := by decide
theorem test_illformed_rd38 : (Instr.rdUnmapped38 0x40).wellFormed = false := by decide
theorem test_illformed_rd40 : (Instr.rdUnmapped40 0x80).wellFormed = false := by decide
theorem test_illformed_rd80 : (Instr.rdUnmapped80 0x7F).wellFormed = false := by decide
theorem test_illformed_wr28 : (Instr.wrUnmapped28 ⟨0x27, 0⟩).wellFormed = false := by decide
theorem test_illformed_wr31 : (Instr.wrUnmapped31 ⟨0x32, 0⟩).wellFormed = false := by decide
theorem test_illformed_wr32 : (Instr.wrUnmapped32 ⟨0x31, 0⟩).wellFormed = false := by decide
theorem test_illformed_wr34 : (Instr.wrUnmapped34 ⟨0x38, 0⟩).wellFormed = false := by decide
theorem test_illformed_wr38 : (Instr.wrUnmapped38 ⟨0x37, 0⟩).wellFormed = false := by decide
theorem test_illformed_wr40 : (Instr.wrUnmapped40 ⟨0x3F, 0⟩).wellFormed = false := by decide
theorem test_illformed_wr80 : (Instr.wrUnmapped80 ⟨0x00, 0⟩).wellFormed = false := by decide

/-! ### Decoding: each word written out from its pattern in 30_encoding.md R107, ignored bits set -/

theorem test_decode_reads :
    decode 0b0000001000010101010 = .rdVol 2 ∧ decode 0b0000001000111111111 = .rdFben 2 ∧
    decode 0b0000000101000000000 = .rdOut 1 ∧ decode 0b0000001101100000000 = .rdSrlo 3 ∧
    decode 0b0000000110000000000 = .rdSrhi 1 ∧ decode 0b0000000010111111111 = .rdBkup 0 ∧
    decode 0b0000001011000000001 = .rdCtl 2 ∧ decode 0b0000001111100000000 = .rdCnt 3 ∧
    decode 0b0000010010010000000 = .rdAttl 2 ∧ decode 0b0000010011111111111 = .rdAttr 3 ∧
    decode 0b0000011000001010101 = .rdMvol := by decide

theorem test_decode_unmapped_reads :
    decode 0b0000010111110000000 = .rdUnmapped28 0x2F ∧ decode 0b0000011000100000000 = .rdUnmapped31 0x31 ∧
    decode 0b0000011001100000000 = .rdUnmapped32 0x33 ∧ decode 0b0000011010000000000 = .rdUnmapped34 0x34 ∧
    decode 0b0000011111100000000 = .rdUnmapped38 0x3F ∧ decode 0b0000111111100000000 = .rdUnmapped40 0x7F ∧
    decode 0b0001111111100000000 = .rdUnmapped80 0xFF := by decide

theorem test_decode_writes :
    decode 0b0010000000001111111 = .wrVol 0 0x7F ∧ decode 0b0010001000110100101 = .wrFben 2 0xA5 ∧
    decode 0b0010001101010000000 = .wrOut 3 0x80 ∧ decode 0b0010000101100110100 = .wrSrlo 1 0x34 ∧
    decode 0b0010000110011111111 = .wrSrhi 1 0xFF ∧ decode 0b0010000010100001010 = .wrBkup 0 0x0A ∧
    decode 0b0010001011001111111 = .wrCtl 2 0x7F ∧ decode 0b0010001111101000010 = .wrCnt 3 0x42 ∧
    decode 0b0010010001011111111 = .wrAttl 1 0xFF ∧ decode 0b0010010011100001011 = .wrAttr 3 0x0B ∧
    decode 0b0010011000010100101 = .wrMvol 0xA5 := by decide

theorem test_decode_unmapped_writes :
    decode 0b0010010100001010101 = .wrUnmapped28 ⟨0x28, 0x55⟩ ∧ decode 0b0010011000101010101 = .wrUnmapped31 ⟨0x31, 0x55⟩ ∧
    decode 0b0010011001011111111 = .wrUnmapped32 ⟨0x32, 0xFF⟩ ∧ decode 0b0010011011100000000 = .wrUnmapped34 ⟨0x37, 0x00⟩ ∧
    decode 0b0010011100000000000 = .wrUnmapped38 ⟨0x38, 0x00⟩ ∧ decode 0b0010100000000000001 = .wrUnmapped40 ⟨0x40, 0x01⟩ ∧
    decode 0b0011000000000000000 = .wrUnmapped80 ⟨0x80, 0x00⟩ := by decide

theorem test_decode_other_events :
    decode 0b0101010101111001101 = .tick ∧ decode 0b0111111111111111111 = .frameEnd ∧
    decode 0b1001111111111111101 = .setStereo true ∧ decode 0b1000000000011111110 = .setStereo false ∧
    decode 0b1011111111100000000 = .reset ∧ decode 0b1100000000000000000 = .reserved6 ∧
    decode 0b1111111111111111111 = .reserved7 := by decide

/-- R109: the canonical spellings. -/
theorem test_encode_canonical :
    encode (.wrVol 0 0x7F) = 0x1007F ∧ encode (.rdOut 1) = 0x00A00 ∧ encode .tick = 0x20000 ∧
    encode .frameEnd = 0x30000 ∧ encode (.setStereo true) = 0x40001 ∧ encode .reset = 0x50000 := by decide

/-- The words of V-REG-17, V-REG-18 and of the program in 95_test_vectors.md section 10: the data is kept. -/
theorem test_encode_unmapped_write :
    encode (.wrUnmapped28 ⟨0x2F, 0x55⟩) = 0x12F55 ∧ encode (.wrUnmapped31 ⟨0x31, 0x55⟩) = 0x13155 ∧
    encode (.wrUnmapped28 ⟨0x28, 0x55⟩) = 0x12855 := by decide

/-- R100: a number that needs more than 19 bits is no event word. -/
theorem test_decodeTableWord_bounds :
    decodeTableWord 24 0x80000 = none ∧ decodeTableWord 24 0x7FFFF = some .reserved7 := by decide

/-! ### Reads (sections 6 and 10; 43_register_interface.md examples) -/

/-- A channel with a value of its own in every field. -/
def kAll : Channel := ⟨0x9C, 0xA5, 0xDF, 0xABC, 0x0A, 0x7F, 0xF7, 0x7, 0xB⟩

theorem test_reads_of_a_channel :
    (after (exec (.rdVol 2) (base.setChan 2 kAll))).map State.reply = some (.rdata 0x9C) ∧
    (after (exec (.rdFben 2) (base.setChan 2 kAll))).map State.reply = some (.rdata 0xA5) ∧
    (after (exec (.rdOut 2) (base.setChan 2 kAll))).map State.reply = some (.rdata 0xDF) ∧
    (after (exec (.rdSrlo 2) (base.setChan 2 kAll))).map State.reply = some (.rdata 0xBC) ∧
    (after (exec (.rdSrhi 2) (base.setChan 2 kAll))).map State.reply = some (.rdata 0x0A) ∧
    (after (exec (.rdBkup 2) (base.setChan 2 kAll))).map State.reply = some (.rdata 0x0A) ∧
    (after (exec (.rdCtl 2) (base.setChan 2 kAll))).map State.reply = some (.rdata 0x7F) ∧
    (after (exec (.rdCnt 2) (base.setChan 2 kAll))).map State.reply = some (.rdata 0xF7) := by decide

theorem test_reads_outside_the_channel_block :
    (after (exec (.rdAttl 2) (base.setChan 2 kAll))).map State.reply = some (.rdata 0x07) ∧
    (after (exec (.rdAttr 2) (base.setChan 2 kAll))).map State.reply = some (.rdata 0x0B) ∧
    (after (exec .rdMvol { base with masterVolume := 0xA5 })).map State.reply = some (.rdata 0xA5) ∧
    (after (exec (.rdUnmapped28 0x28) base)).map State.reply = some (.rdata 0x00) ∧
    (after (exec (.rdUnmapped80 0xFF) base)).map State.reply = some (.rdata 0x00) := by decide

/-- V-RST-1: after reset with seed 0xABC on channel 1, offset 0x0B reads 0xBC, 0x0C reads 0x0A, 0x0E reads 0. -/
theorem test_reset_window :
    let s := State.powerOn ⟨4, 2, 0, #v[0x001, 0xABC, 0x800, 0xFFF], true, 0⟩
    readReg s 0x03 = 0x01 ∧ readReg s 0x0B = 0xBC ∧ readReg s 0x0C = 0x0A ∧ readReg s 0x14 = 0x08 ∧
      readReg s 0x1C = 0x0F ∧ readReg s 0x0E = 0x00 ∧ readReg s 0x30 = 0x00 := by decide

/-! ### Writes -/

/-- V-REG-21, V-REG-9, P4 and the examples of R223, R224. -/
theorem test_writes_of_a_channel :
    (after (exec (.wrVol 2 0x9C) base)).map (fun t => (t.chan 2).volume) = some 0x9C ∧
    (after (exec (.wrFben 2 0xA5) base)).map (fun t => (t.chan 2).feedbackEnable) = some 0xA5 ∧
    (after (exec (.wrOut 0 0x80) base)).map (fun t => (t.chan 0).output.toInt) = some (-128) ∧
    (after (exec (.wrSrlo 1 0x34) (base.setChan 1 { kAll with shiftRegister := 0xF01 }))).map
      (fun t => (t.chan 1).shiftRegister) = some 0xF34 ∧
    (after (exec (.wrSrhi 1 0xFF) base)).map (fun t => (t.chan 1).shiftRegister) = some 0xF01 ∧
    (after (exec (.wrBkup 0 0x0A) base)).map (fun t => (t.chan 0).backupValue) = some 0x0A ∧
    (after (exec (.wrCtl 2 0xDF) base)).map (fun t => (t.chan 2).control) = some 0xDF ∧
    (after (exec (.wrCnt 3 0x42) base)).map (fun t => (t.chan 3).counter) = some 0x42 := by decide

/-- V-REG-11, V-REG-13, V-REG-17, P4. -/
theorem test_writes_outside_the_channel_block :
    (after (exec (.wrAttl 2 0x37) base)).map (fun t => (t.chan 2).leftAtten) = some 7 ∧
    (after (exec (.wrAttr 3 0x0B) base)).map (fun t => (t.chan 3).rightAtten) = some 11 ∧
    (after (exec (.wrMvol 0xA5) base)).map State.masterVolume = some 0xA5 ∧
    after (exec (.wrUnmapped28 ⟨0x2F, 0x55⟩) base) = some base := by decide

/-- V-REG-22: a Volume write does not change Output. -/
theorem test_volume_write_keeps_output :
    (after (exec (.wrVol 0 0x01) (with0 kAll))).map (fun t => (t.chan 0).output) = some 0xDF := by decide

/-! ### The channel (sections 2 and 3) -/

/-- V-LFSR-1, -2 (clock 12), -3, -4, -7, -10, and W4: the first shift from each seed. -/
theorem test_lfsr_shift :
    ({ kAll with feedbackEnable := 0x01, shiftRegister := 0x001 } : Channel).lfsrShift.shiftRegister = 0x800 ∧
    ({ kAll with feedbackEnable := 0x03, shiftRegister := 0x002 } : Channel).lfsrShift.shiftRegister = 0x801 ∧
    ({ kAll with feedbackEnable := 0xFF, shiftRegister := 0xFFF } : Channel).lfsrShift.shiftRegister = 0x7FF ∧
    ({ kAll with feedbackEnable := 0x80, shiftRegister := 0x400 } : Channel).lfsrShift.shiftRegister = 0xA00 ∧
    ({ kAll with feedbackEnable := 0x40, shiftRegister := 0x080 } : Channel).lfsrShift.shiftRegister = 0x840 ∧
    ({ kAll with feedbackEnable := 0x80, shiftRegister := 0x001 } : Channel).lfsrShift.shiftRegister = 0x000 := by
  decide

/-- V-OUT-3, -4, -16, -17: direct mode. -/
theorem test_direct_update :
    ({ kAll with volume := 0x80, shiftRegister := 1 } : Channel).updateDirect.output.toInt = -128 ∧
    ({ kAll with volume := 0x80, shiftRegister := 2 } : Channel).updateDirect.output.toInt = 127 ∧
    ({ kAll with volume := 0x81, shiftRegister := 1 } : Channel).updateDirect.output.toInt = -127 ∧
    ({ kAll with volume := 0x81, shiftRegister := 2 } : Channel).updateDirect.output.toInt = 127 := by decide

/-- V-OUT-6, -7, -11, -12, -13, -18: integration mode. -/
theorem test_integrate_update :
    ({ kAll with output := 100, volume := 0x7F, shiftRegister := 1 } : Channel).updateIntegrate.output.toInt = 127 ∧
    ({ kAll with output := -100, volume := 0x7F, shiftRegister := 2 } : Channel).updateIntegrate.output.toInt = -128 ∧
    ({ kAll with output := -128, volume := 0x80, shiftRegister := 2 } : Channel).updateIntegrate.output.toInt = 0 ∧
    ({ kAll with output := 127, volume := 0x80, shiftRegister := 2 } : Channel).updateIntegrate.output.toInt = 127 ∧
    ({ kAll with output := 10, volume := 0xF6, shiftRegister := 1 } : Channel).updateIntegrate.output.toInt = 0 ∧
    ({ kAll with output := -128, volume := 0x7F, shiftRegister := 1 } : Channel).updateIntegrate.output.toInt = -1 := by
  decide

/-! ### TICK (section 5) -/

/-- V-CLK-9: the mix of a TICK sees the clock of the same TICK. -/
theorem test_tick_mixes_after_clock :
    let s := { (State.powerOn (par 1 16)).setChan 0 kClk9 with masterVolume := 15 }
    (after (exec .tick s)).map (fun t => t.buf) = some [⟨-15360, 0⟩] ∧
    (after (exec .tick s)).map (fun t => (t.chan 0).shiftRegister) = some 0x800 := by decide

/-- V-CLK-4 and V-CLK-5: a counter at 1 goes to 0 without a clock; a disabled channel keeps everything. -/
theorem test_tick_counts :
    (after (exec .tick (with0 { kClk9 with counter := 1, backupValue := 7 }))).map (fun t => t.chan 0) =
      some { kClk9 with counter := 0, backupValue := 7 } ∧
    (after (exec .tick (with0 { kClk9 with control := 0x00, counter := 5 }))).map (fun t => t.chan 0) =
      some { kClk9 with control := 0x00, counter := 5 } := by decide

/-- V-OUT-STG-7: the buffer that fills is handed off inside the TICK, interleaved. -/
theorem test_tick_capacity_flush :
    let s := { (State.powerOn (par 1 2)).setChan 0 { kClk9 with counter := 2, output := -64 } with
      masterVolume := 15, buf := [⟨-15360, 0⟩] }
    (after (exec .tick s)).map (fun t => (t.buf, t.sink)) =
      some ([], [⟨[-15360, 0, -15360, 0], 2, 48000⟩]) := by decide

/-! ### The mixer (section 4) -/

/-- V-MIX-3, -8, -20: floor rounding and the clamp. -/
theorem test_mix_stereo :
    mix { with0 (kMix 127 15 15) with masterVolume := 255 } = ⟨32767, 32767⟩ ∧
    mix { with0 (kMix (-3) 1 0) with masterVolume := 15 } = ⟨-64, 0⟩ ∧
    mix { with0 (kMix (-1) 3 3) with masterVolume := 255 } = ⟨-1024, -1024⟩ := by decide

/-- V-MIX-9, -10, -11: the mono average truncates toward zero. -/
theorem test_mix_mono :
    mix { with0 (kMix 20 15 0) with masterVolume := 15, stereoEnabled := false } = ⟨2368, 2368⟩ ∧
    mix { with0 (kMix (-20) 15 0) with masterVolume := 15, stereoEnabled := false } = ⟨-2368, -2368⟩ ∧
    mix { with0 (kMix (-3) 1 0) with masterVolume := 15, stereoEnabled := false } = ⟨0, 0⟩ := by decide

/-- V-MIX-12: four channels, one disabled. -/
theorem test_mix_four_channels :
    let s := { (((base.setChan 0 (kMix 100 15 3)).setChan 1 (kMix (-100) 15 7)).setChan 2 (kMix 50 8 15)).setChan 3
      { kMix 77 15 15 with control := 0 } with masterVolume := 31 }
    mixSums s = (100, 87) ∧ mix s = ⟨12800, 11136⟩ := by decide

/-! ### FRAME_END, SET_STEREO, RESET, the reserved ops (sections 7 to 9) -/

/-- R263: frameCount is a uint32_t; the largest count it holds is delivered as it is. -/
theorem test_frameCount_largest : (frameCountOf 0xFFFFFFFF).toNat = 4294967295 ∧ frameCountOf 0 = 0 := by decide

/-- V-OUT-STG-3 and the example of R261. -/
theorem test_frameEnd :
    (after (exec .frameEnd base)).map State.sink = some [⟨[], 0, 48000⟩] ∧
    (after (exec .frameEnd { base with buf := [⟨2368, 2368⟩] })).map (fun t => (t.buf, t.sink)) =
      some ([], [⟨[2368, 2368], 1, 48000⟩]) := by decide

theorem test_setStereo :
    (after (exec (.setStereo false) base)).map State.stereoEnabled = some false ∧
    (after (exec (.setStereo true) { base with stereoEnabled := false })).map State.stereoEnabled = some true := by
  decide

/-- V-OUT-STG-5, V-OUT-STG-6, V-RST-2. -/
theorem test_reset :
    (after (exec .reset { with0 kAll with buf := [⟨0, 0⟩], stereoEnabled := false, sampleTick := 3 })) =
      some { base with stereoEnabled := false, sink := [⟨[0, 0], 1, 48000⟩] } ∧
    after (exec .reset base) = some base := by decide

/-- V-ENC-11. -/
theorem test_reserved_refused :
    refusalOf (exec .reserved6 base) = some .reservedEvent ∧
    refusalOf (exec .reserved7 base) = some .reservedEvent := by decide

/-! ### Host inputs -/

/-- R77: a two-byte access is refused, a one-byte access is the event. -/
theorem test_bus_width :
    refusalOf (step { base with inputs := [.busRead 0x00 2] }) = some .wideAccess ∧
    refusalOf (step { base with inputs := [.busWrite 0x00 [1, 2]] }) = some .wideAccess ∧
    (after (step { base with inputs := [.busRead 0x03 1] })).map State.reply = some (.rdata 0x01) ∧
    (after (step { base with inputs := [.busWrite 0x30 [0xA5]] })).map State.masterVolume = some 0xA5 := by decide

/-- The tuple of `base`, restored with one change. -/
def tuple : Snapshot := snapshotOf base

/-- V-SNP-3, V-SNP-4, V-SNP-5. -/
theorem test_restore_ranges :
    refusalOf (restore { tuple with
      channels := tuple.channels.set 0 { channelTuple kAll with shiftRegister := 0x1000 } } base) =
        some .invalidRestore ∧
    refusalOf (restore { tuple with
      channels := tuple.channels.set 2 { channelTuple kAll with output := 128 } } base) = some .invalidRestore ∧
    refusalOf (restore { tuple with sampleTick := 4 } base) = some .invalidRestore ∧
    refusalOf (restore { tuple with bufCount := 2, frames := [(0, 0), (0, 0)] } base) = some .invalidRestore ∧
    (after (restore { tuple with
      channels := tuple.channels.set 1 { channelTuple kAll with shiftRegister := 0 } } base)).map
        (fun t => (t.chan 1).shiftRegister) = some 0 := by decide

/-- V-SNP-1: the order of the tuple. -/
theorem test_snapshot_order :
    (snapshotList (snapshotOf (with0 ⟨0x40, 0x01, -64, 0x200, 2, 0x80, 1, 15, 0⟩))).take 10 =
      [0x40, 0x01, -64, 0x200, 2, 0x80, 1, 15, 0, 0] := by decide

/-- V-PAR-1: SAMPLE_DIV 0, BUF_CAP 0 and a seed of 0 or 0x1000 are refused at power-on. -/
theorem test_bad_parameters :
    refusalOf (powerCycle { base with params := par 0 2 }) = some .badParameter ∧
    refusalOf (powerCycle { base with params := par 4 0 }) = some .badParameter ∧
    refusalOf (powerCycle { base with params := ⟨4, 2, 0, #v[1, 1, 0, 1], true, 0⟩ }) = some .badParameter ∧
    refusalOf (powerCycle { base with params := ⟨4, 2, 0, #v[1, 1, 0x1000, 1], true, 0⟩ }) = some .badParameter := by
  decide

/-- An event placed at State.reset is the next one run, with the parameters open. -/
theorem test_first_event_after_reset :
    (after (step (State.reset.withFetchWord 24 0x1307F))).map State.masterVolume = some 0x7F := by rfl

/-! ### Witnesses: for each statement with hypotheses, operands that meet them, at the bounds of each clause -/

theorem witness_DecodeEncodeRoundTrip :
    (Instr.rdUnmapped28 0x28).wellFormed = true ∧ (Instr.wrUnmapped80 ⟨0xFF, 0⟩).wellFormed = true ∧
    (Instr.rdUnmapped31 0x31).wellFormed = true ∧ (Instr.wrVol 3 0xFF).wellFormed = true := by decide

theorem witness_IgnoredBitsDoNotMatter :
    0b111#3 ∈ [0b010#3, 0b011#3, 0b101#3, 0b110#3, 0b111#3] ∧
    (0x01#8).getLsbD 0 = (0xFF#8).getLsbD 0 ∧ locate 0x28 = .unmapped .from28 ∧
    locate 0xFF = .unmapped .from80 := by decide

theorem witness_OffsetsSelectRegisters :
    (0x1F : Byte) < 0x20 ∧ locate 0x1F = .channel 3 .counter ∧ locate 0x20 = .atten 0 .left ∧
    (0x20 : Byte) ≤ 0x27 ∧ locate 0x27 = .atten 3 .right := by decide

theorem witness_StepRunsDecodedEvent :
    ({ base with inputs := [.event 0x20000] } : State).inputs = .event 0x20000 :: [] := by decide

theorem witness_StepOfBusAccess :
    base.inputs = [] ∧ ({ base with inputs := [.busRead 0xFF 1] } : State).inputs = .busRead 0xFF 1 :: [] ∧
    ({ base with inputs := [.busWrite 0xFF [7]] } : State).inputs = .busWrite 0xFF [7] :: [] ∧
    ([] : List Byte).length ≠ 1 ∧ ([7, 7] : List Byte).length ≠ 1 ∧
    ({ base with inputs := [.busWrite 0xFF [7, 7]] } : State).inputs = .busWrite 0xFF [7, 7] :: [] := by decide

/-- Also for RdUnmappedReadsZero and WrUnmappedChangesNothing, whose offsets are the same. -/
theorem witness_EveryOtherEventCompletes :
    Instr.tick ≠ .reserved6 ∧ Instr.tick ≠ .reserved7 ∧
    ((0x28 : Byte) ≤ 0x28 ∧ (0x28 : Byte) ≤ 0x2F) ∧ ((0x28 : Byte) ≤ 0x2F ∧ (0x2F : Byte) ≤ 0x2F) ∧
    (0x31 : Byte) ≤ 0x31 ∧ (0x31 : Byte) ≤ 0xFF := by decide

theorem witness_WriteLeavesOtherOffsets : (0x04 : Byte) ≠ 0x03 := by decide

theorem witness_LfsrShiftMovesBits :
    10 < 11 ∧ (Channel.atReset 0).feedbackEnable = 0x00 ∧ kClk9.feedbackEnable = 0x01 ∧
    kClk9.shiftRegister = 0x001 ∧ ({ kClk9 with shiftRegister := 0x555 } : Channel).shiftRegister = 0x555 ∧
    ({ kClk9 with shiftRegister := 0xFFF } : Channel).shiftRegister = 0xFFF ∧
    (Channel.atReset 0).shiftRegister = 0 := by decide

theorem witness_ZeroShiftRegisterStaysZero : (Channel.atReset 0).shiftRegister = 0 := by decide

theorem witness_TickChannelsIndependent :
    base.chan 1 = (with0 kAll).chan 1 ∧ base.chan 0 ≠ (with0 kAll).chan 0 := by decide

/-- With Counter 0 and with Counter 1, so that both of the first clause's ends occur. -/
theorem witness_ClockAfterCounterTicks :
    ((with0 kClk9).chan 0).control.getLsbD 7 = true ∧
    ({ with0 kClk9 with inputs := ticks 1 } : State).inputs =
      ticks (((with0 kClk9).chan 0).counter.toNat + 1) ∧
    ({ with0 { kClk9 with counter := 1 } with inputs := ticks 2 } : State).inputs =
      ticks (((with0 { kClk9 with counter := 1 }).chan 0).counter.toNat + 1) := by decide

theorem witness_OneFramePerSampleDiv :
    1 ≤ base.params.sampleDiv ∧ base.sampleTick = 0 ∧
    ({ base with inputs := ticks 4 } : State).inputs = ticks base.params.sampleDiv ∧
    3 < base.params.sampleDiv := by decide

theorem witness_MasterVolumeAndFoldStages :
    (0 : Byte) ≤ 255 ∧ (0 : Int) ≤ 1904 ∧ (0 : Int) ≤ 1 + -1 ∧ ¬ (0 : Int) ≤ 1 + -2 := by decide

theorem witness_MixStageBounds : (-1920 : Int) = (mixSums
    ((((base.setChan 0 (kMix (-128) 15 15)).setChan 1 (kMix (-128) 15 15)).setChan 2 (kMix (-128) 15 15)).setChan 3
      (kMix (-128) 15 15))).1 := by decide

/-- All four channels at Output o with attenuations 15, MasterVolume 255. -/
def loud (o : Byte) : State :=
  { (((base.setChan 0 (kMix o 15 15)).setChan 1 (kMix o 15 15)).setChan 2 (kMix o 15 15)).setChan 3
    (kMix o 15 15) with masterVolume := 255 }

theorem witness_MixExtremesClamp : ∀ o : Byte, o = 127 ∨ o = -128 →
    (∀ c : ChanIx, ((loud o).chan c).control.getLsbD 7 = true ∧ ((loud o).chan c).output = o ∧
      ((loud o).chan c).leftAtten = 15 ∧ ((loud o).chan c).rightAtten = 15) ∧
    (loud o).masterVolume = 255 := by
  rintro o (rfl | rfl) <;> decide

theorem witness_DisabledChannelNotMixed :
    (base.chan 3).control.getLsbD 7 = false ∧
    ({ kAll with control := 0x7F } : Channel).control.getLsbD 7 = false ∧
    base.chan 3 ≠ { kAll with control := 0x7F } := by decide

theorem witness_FrameCountIsExact :
    (0xFFFFFFFF : Nat) < 2 ^ 32 ∧ ({ base with buf := [⟨2368, 2368⟩] } : State).buf.length < 2 ^ 32 := by decide

/-- A TICK that mixes (SampleTick 3 of 4) and one that does not. -/
theorem witness_NoFrameLost :
    (after (exec .tick { base with sampleTick := 3 })).map State.buf = some [⟨0, 0⟩] ∧
    (after (exec .tick base)).map State.buf = some [] := by decide

theorem witness_OnlySetStereoChangesStereo :
    (after (exec (.setStereo false) base)).map State.stereoEnabled = some false ∧
    base.stereoEnabled = true := by decide

theorem witness_OnlyControlWritesChangeFlags :
    (after (exec (.wrCtl 2 0x80) base)).map (fun t => (t.chan 2).control) = some 0x80 ∧
    (base.chan 2).control = 0 ∧
    (after (exec .reset (with0 kAll))).map (fun t => (t.chan 0).control) = some 0 ∧
    ((with0 kAll).chan 0).control = 0x7F := by decide

theorem witness_PowerCycleStartsOver :
    ({ base with inputs := [.powerCycle] } : State).inputs = .powerCycle :: [] ∧
    ¬ 1 ≤ (par 0 2).sampleDiv := by decide

theorem witness_SnapshotHoldsTheBlock :
    ({ base with inputs := [.snapshot] } : State).inputs = .snapshot :: [] ∧
    snapshotList (snapshotOf base) = snapshotList (snapshotOf { base with reply := .rdata 7 }) ∧
    base.params = ({ base with reply := .rdata 7 } : State).params := by decide

/-- A state in the middle of a run: a frame buffered, a channel running. -/
def midRun : State := { with0 kAll with sampleTick := 3, buf := [⟨-32768, 32767⟩] }

theorem witness_RestoreOfSnapshot :
    midRun.Inv ∧ base.params = midRun.params ∧
    ({ base with inputs := [.restore (snapshotOf midRun)] } : State).inputs =
      .restore (snapshotOf midRun) :: [] := by decide

/-- Both outcomes: in range, and out of range. -/
theorem witness_RestoreRefusesOutOfRange :
    ({ base with inputs := [.restore tuple] } : State).inputs = .restore tuple :: [] ∧
    snapshotOk base.params tuple = true ∧ snapshotOk base.params { tuple with bufCount := 1 } = false := by decide

/-- Also for ParametersNeverChange. -/
theorem witness_StepKeepsInvariant :
    midRun.Inv ∧ (after (step { midRun with inputs := [.event 0x20000] })).isSome = true := by decide

end Sys2Proof.Tests
end

section
/-! PROOFS. The address map of 20_memory.md from the offset (a bit field selects the register) and from the
register (an offset computed from its indices). -/

namespace Sys2Proof

/-! ### From the offset -/

/-- The first row of R72, its fields as R73 names them. -/
theorem locate_of_lt_0x20 {a : Byte} (h : a < 0x20) :
    locate a = .channel ((a >>> 3).setWidth 2) (channelRegOf (a.setWidth 3)) := by
  rw [BitVec.setWidth_ushiftRight_eq_extractLsb, BitVec.setWidth_eq_extractLsb' (by decide)]
  exact if_pos h

/-- The subtraction of R74 takes off bit 5 alone: the channel is a[2:1]. -/
theorem channelField_sub_0x20 {a : Byte} (h : 0x20 ≤ a) :
    ((a - 0x20) >>> 1).setWidth 2 = a.extractLsb' 1 2 := by
  rw [BitVec.setWidth_ushiftRight_eq_extractLsb]
  apply BitVec.eq_of_toNat_eq
  rw [BitVec.extractLsb'_toNat, BitVec.extractLsb'_toNat, BitVec.toNat_sub_of_le h,
    Nat.shiftRight_eq_div_pow, Nat.shiftRight_eq_div_pow]
  have hle : 0x20 ≤ a.toNat := h
  change (a.toNat - 0x20) / 2 ^ 1 % 2 ^ 2 = _
  omega

/-- The second row of R72, its fields as R74 names them. -/
theorem locate_of_mem_0x20_0x27 {a : Byte} (hlo : 0x20 ≤ a) (hhi : a ≤ 0x27) :
    locate a = .atten (((a - 0x20) >>> 1).setWidth 2) (if a.getLsbD 0 then .right else .left) := by
  have hnotBlock : ¬ a < 0x20 := BitVec.not_lt.mpr hlo
  have hatten : a < 0x28 := by bv_omega
  rw [channelField_sub_0x20 hlo]
  exact (if_neg hnotBlock).trans (if_pos hatten)

/-! ### From the register -/

/-- Packing the fields of a channel register's offset is the sum of R73. -/
theorem channelOffset_eq_ofNat (c : ChanIx) (i : BitVec 3) :
    channelOffset c i = BitVec.ofNat 8 (8 * c.toNat + i.toNat) := by
  revert c i; decide

/-- Packing the fields of an attenuation register's offset is the sum of R74. -/
theorem attenOffset_eq_ofNat (c : ChanIx) (side : BitVec 1) :
    attenOffset c side = BitVec.ofNat 8 (0x20 + side.toNat + 2 * c.toNat) := by
  revert c side; decide

theorem locate_channelSum (c : ChanIx) (i : BitVec 3) :
    locate (BitVec.ofNat 8 (8 * c.toNat + i.toNat)) = .channel c (channelRegOf i) := by
  rw [← channelOffset_eq_ofNat, locate_channelOffset]

theorem locate_attenSum_left (c : ChanIx) :
    locate (BitVec.ofNat 8 (0x20 + 2 * c.toNat)) = .atten c .left :=
  (congrArg locate (attenOffset_eq_ofNat c 0)).symm.trans (locate_attenOffset c 0)

theorem locate_attenSum_right (c : ChanIx) :
    locate (BitVec.ofNat 8 (0x21 + 2 * c.toNat)) = .atten c .right :=
  (congrArg locate (attenOffset_eq_ofNat c 1)).symm.trans (locate_attenOffset c 1)

/-- The eight registers of a channel's block in the order of R72. -/
theorem channelRegOf_order :
    ((List.range 8).map fun i => channelRegOf (BitVec.ofNat 3 i)) =
      [.volume, .feedbackEnable, .output, .shiftLow, .shiftHigh, .backupValue, .control, .counter] := by
  decide

/-- Settles O7: the two regions of the map, each read from the offset and from the register. -/
theorem offsetsSelectRegisters : Obligations.OffsetsSelectRegisters :=
  ⟨fun _ => locate_of_lt_0x20, locate_channelSum, channelRegOf_order,
    fun _ => locate_of_mem_0x20_0x27, fun c => ⟨locate_attenSum_left c, locate_attenSum_right c⟩⟩

end Sys2Proof
end

section
/-! PROOFS. The two events of R103 that have no meaning. -/

namespace Sys2Proof.Machine

@[simp] theorem exec_reserved6 (s : State) : exec .reserved6 s = .refused .reservedEvent := rfl

@[simp] theorem exec_reserved7 (s : State) : exec .reserved7 s = .refused .reservedEvent := rfl

/-- Settles O11: the meaning of each reserved event, and the words of its op. -/
theorem reservedOpsRefused : Obligations.ReservedOpsRefused :=
  ⟨exec_reserved6, exec_reserved7, fun a d => ⟨decode_reserved6 a d, decode_reserved7 a d⟩⟩

end Sys2Proof.Machine
end

section
/-! PROOFS. One clock of a channel (40_lfsr_channel.md R130 to R135): the shift bit by bit, its repetition under
the two masks R132 names, and the clock. -/

namespace Sys2Proof.Machine

/-! ### The feedback bit (R131) -/

@[simp] theorem feedback_zero_mask (sr : SrWord) : feedback sr 0 = false := by
  simp [feedback, taps]

@[simp] theorem feedback_zero_register (fe : Byte) : feedback 0 fe = false := by
  simp [feedback, taps]

@[simp] theorem feedback_one_mask (sr : SrWord) : feedback sr 1 = sr.getLsbD 0 := by
  simp [feedback, taps]

/-! ### The shift (R132) -/

@[simp] theorem Channel.lfsrShift_feedbackEnable (k : Channel) :
    k.lfsrShift.feedbackEnable = k.feedbackEnable := rfl

/-- LfsrShift writes ShiftRegister only. -/
theorem Channel.lfsrShift_frame (k : Channel) :
    { k.lfsrShift with shiftRegister := k.shiftRegister } = k := rfl

/-- The shift puts the feedback bit on top of the old bits 11:1. -/
theorem Channel.lfsrShift_shiftRegister (k : Channel) :
    k.lfsrShift.shiftRegister =
      BitVec.cons (feedback k.shiftRegister k.feedbackEnable) (k.shiftRegister.extractLsb' 1 11) := by
  apply BitVec.eq_of_getLsbD_eq
  intro i hi
  -- The mask 0xFFF keeps all twelve bits.
  change ((_ ||| _) &&& BitVec.allOnes 12).getLsbD i = _
  rw [BitVec.and_allOnes, BitVec.getLsbD_or, BitVec.getLsbD_cons]
  by_cases htop : i = 11
  · subst htop
    simp
  · have hlow : i < 11 := by omega
    simp [htop, hlow, Nat.add_comm]

theorem Channel.lfsrShift_getLsbD_top (k : Channel) :
    k.lfsrShift.shiftRegister.getLsbD 11 = feedback k.shiftRegister k.feedbackEnable := by
  rw [lfsrShift_shiftRegister, BitVec.getLsbD_cons, if_pos rfl]

theorem Channel.lfsrShift_getLsbD_of_lt (k : Channel) {i : Nat} (hi : i < 11) :
    k.lfsrShift.shiftRegister.getLsbD i = k.shiftRegister.getLsbD (i + 1) := by
  rw [lfsrShift_shiftRegister, BitVec.getLsbD_cons, if_neg hi.ne, BitVec.getLsbD_extractLsb']
  simp [hi, Nat.add_comm]

theorem Channel.lfsrShift_of_zero_register {k : Channel} (h : k.shiftRegister = 0) :
    k.lfsrShift.shiftRegister = 0 := by
  rw [lfsrShift_shiftRegister, h, feedback_zero_register]
  decide

/-! ### The empty mask: a logical shift -/

theorem Channel.lfsrShift_of_zero_mask {k : Channel} (h : k.feedbackEnable = 0) :
    k.lfsrShift.shiftRegister = k.shiftRegister >>> 1 := by
  apply BitVec.eq_of_getLsbD_eq
  intro i hi
  rw [BitVec.getLsbD_ushiftRight, Nat.add_comm]
  obtain hlow | rfl : i < 11 ∨ i = 11 := by omega
  · exact k.lfsrShift_getLsbD_of_lt hlow
  · rw [lfsrShift_getLsbD_top, h, feedback_zero_mask, BitVec.getLsbD_of_ge _ _ (le_refl 12)]

theorem Channel.lfsrShift_iterate_of_zero_mask {k : Channel} (h : k.feedbackEnable = 0) (n : Nat) :
    (Channel.lfsrShift^[n] k).shiftRegister = k.shiftRegister >>> n := by
  induction n generalizing k with
  | zero => simp
  | succ n ih =>
    rw [Function.iterate_succ_apply, ih (k.lfsrShift_feedbackEnable.trans h),
      lfsrShift_of_zero_mask h, ← BitVec.shiftRight_add, Nat.add_comm]

/-! ### The mask 0x01: a rotation -/

theorem Channel.lfsrShift_getLsbD_of_one_mask {k : Channel} (h : k.feedbackEnable = 1) {i : Nat}
    (hi : i < 12) : k.lfsrShift.shiftRegister.getLsbD i = k.shiftRegister.getLsbD ((i + 1) % 12) := by
  obtain hlow | rfl : i < 11 ∨ i = 11 := by omega
  · rw [lfsrShift_getLsbD_of_lt k hlow, Nat.mod_eq_of_lt (Nat.succ_lt_succ hlow)]
  · rw [lfsrShift_getLsbD_top, h, feedback_one_mask]

/-- Bit i after n shifts is the old bit n places further round. -/
theorem Channel.lfsrShift_iterate_getLsbD_of_one_mask {k : Channel} (h : k.feedbackEnable = 1) (n : Nat)
    {i : Nat} (hi : i < 12) :
    (Channel.lfsrShift^[n] k).shiftRegister.getLsbD i = k.shiftRegister.getLsbD ((i + n) % 12) := by
  induction n generalizing k with
  | zero => simp [Nat.mod_eq_of_lt hi]
  | succ n ih =>
    rw [Function.iterate_succ_apply, ih (k.lfsrShift_feedbackEnable.trans h),
      lfsrShift_getLsbD_of_one_mask h (Nat.mod_lt _ (by decide)), Nat.mod_add_mod, Nat.add_assoc]

theorem Channel.lfsrShift_twelve_of_one_mask {k : Channel} (h : k.feedbackEnable = 1) :
    (Channel.lfsrShift^[12] k).shiftRegister = k.shiftRegister := by
  apply BitVec.eq_of_getLsbD_eq
  intro i hi
  rw [lfsrShift_iterate_getLsbD_of_one_mask h 12 hi, Nat.add_mod_right, Nat.mod_eq_of_lt hi]

/-- The one set bit of 0x001 is back at position 0 only after all twelve places. -/
theorem Channel.lfsrShift_iterate_ne_one {k : Channel} (h : k.feedbackEnable = 1)
    (hsr : k.shiftRegister = 0x001) {n : Nat} (hlo : 1 ≤ n) (hhi : n < 12) :
    (Channel.lfsrShift^[n] k).shiftRegister ≠ 0x001 := by
  intro hback
  have hbit := lfsrShift_iterate_getLsbD_of_one_mask h n (i := 0) (by decide)
  rw [hback, hsr, Nat.zero_add, Nat.mod_eq_of_lt hhi] at hbit
  have hclear : (0x001#12).getLsbD n = false := by simp [Nat.ne_of_gt hlo]
  exact absurd (hbit.trans hclear) (by decide)

/-- Settles O26: bits and frame from the shift's equation, the rest from its repetition under each mask. -/
theorem lfsrShiftMovesBits : Obligations.LfsrShiftMovesBits := by
  intro k
  refine ⟨k.lfsrShift_getLsbD_top, fun _ => k.lfsrShift_getLsbD_of_lt, k.lfsrShift_frame,
    fun hmask => ?emptyMask, fun hmask => ⟨Channel.lfsrShift_twelve_of_one_mask hmask,
      fun hsr _ => Channel.lfsrShift_iterate_ne_one hmask hsr, fun hsr => ?period2, fun hsr => ?period1⟩,
    Channel.lfsrShift_of_zero_register⟩
  case emptyMask =>
    rw [Channel.lfsrShift_iterate_of_zero_mask hmask 12]
    exact BitVec.ushiftRight_eq_zero (le_refl 12)
  case period2 =>
    have hfirst : k.lfsrShift.shiftRegister = 0xAAA := by
      rw [Channel.lfsrShift_shiftRegister, hmask, hsr]
      decide
    refine ⟨hfirst, ?_⟩
    rw [Channel.lfsrShift_shiftRegister, Channel.lfsrShift_feedbackEnable, hmask, hfirst]
    decide
  case period1 =>
    rw [Channel.lfsrShift_shiftRegister, hmask, hsr]
    decide

/-! ### The clock (R135) -/

theorem Channel.clock_of_integrate {k : Channel} (h : k.integrate = true) :
    k.clock = k.lfsrShift.updateIntegrate :=
  if_pos h

theorem Channel.clock_of_direct {k : Channel} (h : k.integrate = false) :
    k.clock = k.lfsrShift.updateDirect :=
  if_neg (Bool.eq_false_iff.mp h)

/-- Settles O28, by the mode. -/
theorem clockShiftsThenUpdates : Obligations.ClockShiftsThenUpdates := by
  intro k
  cases hmode : k.integrate with
  | true =>
    rw [Channel.clock_of_integrate hmode]
    exact ⟨rfl, (if_pos hmode).symm, rfl⟩
  | false =>
    rw [Channel.clock_of_direct hmode]
    exact ⟨rfl, (if_neg (Bool.eq_false_iff.mp hmode)).symm, rfl⟩

end Sys2Proof.Machine
end

section
/-! PROOFS. TICK (41_clock_driver.md R160, R161): its meaning is the channel steps and then the sample step, and
the sample step leaves the channels alone. -/

namespace Sys2Proof.Machine

theorem exec_tick (s : State) : exec .tick s = .next (sampleStep (tickChannels s)) := rfl

@[simp] theorem chan_sampleStep (s : State) (c : ChanIx) : (sampleStep s).chan c = s.chan c :=
  State.chan_congr (sampleStep_ch s) c

/-- The flag is bit 7 of the Control byte (10_state.md R37). -/
theorem Channel.enabled_eq_getLsbD (k : Channel) : k.enabled = k.control.getLsbD 7 := rfl

/-- The machine's count-down does not wrap above 0, so it is the subtraction of natural numbers. -/
theorem sub_one_eq_ofNat {n : Byte} (h : n ≠ 0) : n - 1 = BitVec.ofNat 8 (n.toNat - 1) := by
  bv_omega

/-- Settles O30: TICK steps every channel, by the three outcomes of a channel step. -/
theorem tickStepsEachChannel : Obligations.TickStepsEachChannel := by
  intro s
  refine ⟨_, exec_tick s, fun c => ?_⟩
  rw [chan_sampleStep, chan_tickChannels, ← Channel.enabled_eq_getLsbD]
  rcases (s.chan c).step_cases with ⟨hoff, hstep⟩ | ⟨hon, hcount, hstep⟩ | ⟨hon, hzero, hstep⟩
  · rw [hstep, if_pos hoff]
  · rw [hstep, if_neg (ne_false_of_eq_true hon), if_pos hcount, sub_one_eq_ofNat hcount]
  · rw [hstep, if_neg (ne_false_of_eq_true hon), if_neg (not_not_intro hzero)]

end Sys2Proof.Machine
end

section
/-! PROOFS. The gain stage (42_stereo_mixer.md R184): an exact times 64, then the 16-bit saturation, side by side. -/

namespace Sys2Proof.Machine

/-- The gain stage, seen as a signed number: no x wraps. -/
theorem gainClamp_toInt (x : Int) : (gainClamp x).toInt = min 32767 (max (-32768) (x * 64)) :=
  sat16_toInt (x * 64)

@[simp] theorem mix_left (s : State) : (mix s).left = gainClamp (mixSides s).1 := rfl

@[simp] theorem mix_right (s : State) : (mix s).right = gainClamp (mixSides s).2 := rfl

/-- Settles O38: each sample of the frame is the gain stage of its own side. -/
theorem gainClampSaturates : Obligations.GainClampSaturates := by
  refine ⟨gainClamp_toInt, fun s => ⟨?_, ?_⟩⟩
  · rw [mix_left, gainClamp_toInt]
  · rw [mix_right, gainClamp_toInt]

end Sys2Proof.Machine
end

section
/-! PROOFS. The events of the register window (43_register_interface.md): which READ and which WRITE each offset is,
and which offsets are unmapped. -/

namespace Sys2Proof

/-! ### The events of a channel's registers (R203 to R210, R220 to R227) -/

/-- The READ event of a channel register. -/
def ChannelReg.readEvent (c : ChanIx) : ChannelReg → Instr
  | .volume => .rdVol c
  | .feedbackEnable => .rdFben c
  | .output => .rdOut c
  | .shiftLow => .rdSrlo c
  | .shiftHigh => .rdSrhi c
  | .backupValue => .rdBkup c
  | .control => .rdCtl c
  | .counter => .rdCnt c

/-- The WRITE event of a channel register. -/
def ChannelReg.writeEvent (c : ChanIx) (d : Byte) : ChannelReg → Instr
  | .volume => .wrVol c d
  | .feedbackEnable => .wrFben c d
  | .output => .wrOut c d
  | .shiftLow => .wrSrlo c d
  | .shiftHigh => .wrSrhi c d
  | .backupValue => .wrBkup c d
  | .control => .wrCtl c d
  | .counter => .wrCnt c d

theorem decode_read_channelOffset (c : ChanIx) (i : BitVec 3) (d : Byte) :
    decode (packWord 0#3 (channelOffset c i) d) = (channelRegOf i).readEvent c := by
  rw [decode_read, decodeRead, locate_channelOffset]
  cases channelRegOf i <;> rfl

theorem decode_write_channelOffset (c : ChanIx) (i : BitVec 3) (d : Byte) :
    decode (packWord 1#3 (channelOffset c i) d) = (channelRegOf i).writeEvent c d := by
  rw [decode_write, decodeWrite, locate_channelOffset]
  cases channelRegOf i <;> rfl

/-! ### The events of the other registers (R211 to R213, R228 to R230) -/

theorem decode_read_attenOffset_left (c : ChanIx) (d : Byte) :
    decode (packWord 0#3 (attenOffset c 0) d) = .rdAttl c := by
  rw [decode_read, decodeRead, locate_attenOffset]
  rfl

theorem decode_read_attenOffset_right (c : ChanIx) (d : Byte) :
    decode (packWord 0#3 (attenOffset c 1) d) = .rdAttr c := by
  rw [decode_read, decodeRead, locate_attenOffset]
  rfl

theorem decode_read_masterVolume (d : Byte) : decode (packWord 0#3 0x30#8 d) = .rdMvol := by
  rw [decode_read, decodeRead, locate_masterVolume]

theorem decode_write_attenOffset_left (c : ChanIx) (d : Byte) :
    decode (packWord 1#3 (attenOffset c 0) d) = .wrAttl c d := by
  rw [decode_write, decodeWrite, locate_attenOffset]
  rfl

theorem decode_write_attenOffset_right (c : ChanIx) (d : Byte) :
    decode (packWord 1#3 (attenOffset c 1) d) = .wrAttr c d := by
  rw [decode_write, decodeWrite, locate_attenOffset]
  rfl

theorem decode_write_masterVolume (d : Byte) : decode (packWord 1#3 0x30#8 d) = .wrMvol d := by
  rw [decode_write, decodeWrite, locate_masterVolume]

/-! ### The unmapped offsets (R214, R231) -/

theorem locate_eq_unmapped {a : Byte} (h : (0x28 ≤ a ∧ a ≤ 0x2F) ∨ 0x31 ≤ a) :
    ∃ g, locate a = .unmapped g := by
  have hblock : ¬ a < 0x20#8 := by bv_omega
  have hatten : ¬ a < 0x28#8 := by bv_omega
  have hmaster : a ≠ 0x30#8 := by bv_omega
  rw [locate, if_neg hblock, if_neg hatten, if_neg hmaster]
  split_ifs <;> exact ⟨_, rfl⟩

end Sys2Proof
end

section
/-! PROOFS. READ and WRITE at any of the 256 offsets (43_register_interface.md R200, R201, R203 to R231): what the
event of a place does, then the registers whose field is not the byte itself. -/

namespace Sys2Proof.Machine

/-! ### The window as a whole (R200, R201) -/

/-- A READ at any offset answers the byte of the place the offset selects (R200). -/
theorem exec_read (s : State) (a d : Byte) :
    exec (decode (packWord 0#3 a d)) s = .next (s.answer (readReg s a)) := by
  rw [decode_read, decodeRead, readReg]
  cases locate a with
  | channel c r => cases r <;> rfl
  | atten c side => cases side <;> rfl
  | masterVolume => rfl
  | unmapped g => cases g <;> rfl

/-- A WRITE at any offset writes the place the offset selects (R201). -/
theorem exec_write (s : State) (a d : Byte) :
    exec (decode (packWord 1#3 a d)) s = .next (writeReg s a d) := by
  rw [decode_write, decodeWrite, writeReg]
  cases locate a with
  | channel c r => cases r <;> rfl
  | atten c side => cases side <;> rfl
  | masterVolume => rfl
  | unmapped g => cases g <;> rfl

/-- Settles O17: the answer is the model's reply port, filled with the place's byte. -/
theorem readReturnsWindowByte : Obligations.ReadReturnsWindowByte := exec_read

/-! ### The events of a channel's registers -/

theorem exec_readEvent (r : ChannelReg) (c : ChanIx) (s : State) :
    exec (r.readEvent c) s = .next (s.answer ((s.chan c).readReg r)) := by
  cases r <;> rfl

theorem exec_writeEvent (r : ChannelReg) (c : ChanIx) (d : Byte) (s : State) :
    exec (r.writeEvent c d) s = .next (s.setChan c ((s.chan c).writeReg r d)) := by
  cases r <;> rfl

/-- Settles O12: the four registers whose byte is their field. -/
theorem rdByteRegisters : Obligations.RdByteRegisters := fun s c d =>
  ⟨decode_read_channelOffset c 0 d, exec_readEvent .volume c s,
    decode_read_channelOffset c 1 d, exec_readEvent .feedbackEnable c s,
    decode_read_channelOffset c 5 d, exec_readEvent .backupValue c s,
    decode_read_channelOffset c 7 d, exec_readEvent .counter c s⟩

/-- Settles O18: the three registers whose field becomes the byte. -/
theorem wrByteRegisters : Obligations.WrByteRegisters := fun s c d =>
  ⟨decode_write_channelOffset c 1 d, exec_writeEvent .feedbackEnable c d s,
    decode_write_channelOffset c 5 d, exec_writeEvent .backupValue c d s,
    decode_write_channelOffset c 7 d, exec_writeEvent .counter c d s⟩

/-! ### Output and the two halves of ShiftRegister (R205, R206, R222, R224) -/

/-- The low n bits are the remainder by 2 ^ n. -/
theorem lowBits_eq_ofNat_mod {w : Nat} (x : BitVec w) (n : Nat) :
    x.extractLsb' 0 n = BitVec.ofNat n (x.toNat % 2 ^ n) := by
  apply BitVec.eq_of_toNat_eq
  simp

theorem Channel.readReg_shiftLow (k : Channel) :
    k.readReg .shiftLow = BitVec.ofNat 8 (k.shiftRegister.toNat % 256) :=
  lowBits_eq_ofNat_mod k.shiftRegister 8

/-- A byte of 128 or more stands for a negative number (R11). -/
theorem sext8_eq_ite (d : Byte) :
    sext8 d = if d.toNat < 128 then (d.toNat : Int) else d.toNat - 256 := by
  rw [sext8, BitVec.toInt_eq_toNat_cond]
  split_ifs <;> omega

/-- The high nibble comes from d, the low byte is kept. -/
theorem Channel.writeHigh_eq_ofNat (k : Channel) (d : Byte) :
    d.extractLsb' 0 4 ++ k.shiftRegister.extractLsb' 0 8 =
      BitVec.ofNat 12 (256 * (d.toNat % 16) + k.shiftRegister.toNat % 256) := by
  apply BitVec.eq_of_toNat_eq
  have hlow : k.shiftRegister.toNat % 256 < 2 ^ 8 := Nat.mod_lt _ (by decide)
  rw [BitVec.toNat_append, BitVec.extractLsb'_toNat, BitVec.extractLsb'_toNat, BitVec.toNat_ofNat,
    Nat.shiftRight_zero, Nat.shiftRight_zero, ← Nat.shiftLeft_add_eq_or_of_lt hlow, Nat.shiftLeft_eq]
  omega

/-- Settles O13: Output's byte as it is stored, and the low half of ShiftRegister as a remainder. -/
theorem rdOutputAndShiftLow : Obligations.RdOutputAndShiftLow := by
  intro s c d
  refine ⟨decode_read_channelOffset c 2 d, exec_readEvent .output c s,
    decode_read_channelOffset c 3 d, ?_⟩
  rw [← Channel.readReg_shiftLow]
  exact exec_readEvent .shiftLow c s

/-- Settles O20: the numbers of the statement are the fields the two WRITEs store. -/
theorem wrOutputAndShiftHigh : Obligations.WrOutputAndShiftHigh := by
  intro s c d
  rw [← sext8_eq_ite, ← Channel.writeHigh_eq_ofNat]
  exact ⟨decode_write_channelOffset c 2 d, exec_writeEvent .output c d s,
    decode_write_channelOffset c 4 d, exec_writeEvent .shiftHigh c d s⟩

/-! ### The attenuations and MasterVolume (R211 to R213, R228 to R230) -/

theorem exec_rdAttl (c : ChanIx) (s : State) :
    exec (.rdAttl c) s = .next (s.answer (zext8 (s.chan c).leftAtten)) := rfl

theorem exec_rdAttr (c : ChanIx) (s : State) :
    exec (.rdAttr c) s = .next (s.answer (zext8 (s.chan c).rightAtten)) := rfl

theorem exec_rdMvol (s : State) : exec .rdMvol s = .next (s.answer s.masterVolume) := rfl

theorem exec_wrAttl (c : ChanIx) (d : Byte) (s : State) :
    exec (.wrAttl c d) s = .next (s.setChan c { s.chan c with leftAtten := d.extractLsb' 0 4 }) := rfl

theorem exec_wrAttr (c : ChanIx) (d : Byte) (s : State) :
    exec (.wrAttr c d) s = .next (s.setChan c { s.chan c with rightAtten := d.extractLsb' 0 4 }) := rfl

theorem exec_wrMvol (d : Byte) (s : State) : exec (.wrMvol d) s = .next { s with masterVolume := d } := rfl

theorem zext8_eq_ofNat (v : Nibble) : zext8 v = BitVec.ofNat 8 v.toNat := (BitVec.ofNat_toNat 8 v).symm

/-- Settles O15: the statement's nibble is the zero-extended one. -/
theorem rdAttenuationsAndMasterVolume : Obligations.RdAttenuationsAndMasterVolume := by
  intro s c d
  rw [← zext8_eq_ofNat, ← zext8_eq_ofNat]
  exact ⟨decode_read_attenOffset_left c d, exec_rdAttl c s, decode_read_attenOffset_right c d,
    exec_rdAttr c s, decode_read_masterVolume d, exec_rdMvol s⟩

/-- Settles O21: the statement's remainder by 16 is the nibble d[3:0]. -/
theorem wrAttenuationsAndMasterVolume : Obligations.WrAttenuationsAndMasterVolume := by
  intro s c d
  have hnibble : BitVec.ofNat 4 (d.toNat % 16) = d.extractLsb' 0 4 := (lowBits_eq_ofNat_mod d 4).symm
  rw [hnibble]
  exact ⟨decode_write_attenOffset_left c d, exec_wrAttl c d s, decode_write_attenOffset_right c d,
    exec_wrAttr c d s, decode_write_masterVolume d, exec_wrMvol d s⟩

/-! ### The unmapped offsets (R214, R231) -/

/-- A place's byte depends on the channels and MasterVolume alone. -/
theorem State.readAt_congr {s t : State} (hch : s.ch = t.ch) (hmv : s.masterVolume = t.masterVolume)
    (l : Location) : s.readAt l = t.readAt l := by
  cases l with
  | channel c r => exact congrArg (Channel.readReg · r) (State.chan_congr hch c)
  | atten c side => exact congrArg (Channel.readAtten · side) (State.chan_congr hch c)
  | masterVolume => exact hmv
  | unmapped g => rfl

theorem readReg_unmapped (s : State) {a : Byte} {g : Gap} (h : locate a = .unmapped g) :
    readReg s a = 0x00 := by
  rw [readReg, h]
  rfl

theorem writeReg_unmapped (s : State) {a : Byte} (d : Byte) {g : Gap} (h : locate a = .unmapped g) :
    writeReg s a d = s := by
  rw [writeReg, h]
  rfl

/-- Settles O16: the offsets by the map, the seven events by their meanings, and the rest by what a place's byte
depends on. -/
theorem rdUnmappedReadsZero : Obligations.RdUnmappedReadsZero := by
  refine ⟨fun s a d ha => ?offsets, fun s a => ⟨rfl, rfl, rfl, rfl, rfl, rfl, rfl⟩,
    fun s a b n l => State.readAt_congr rfl rfl (locate a)⟩
  case offsets =>
    obtain ⟨g, hg⟩ := locate_eq_unmapped ha
    rw [← readReg_unmapped s hg]
    exact exec_read s a d

/-- Settles O22: the offsets by the map, the seven events by their meanings, and StereoEnabled by the frame of a
WRITE. -/
theorem wrUnmappedChangesNothing : Obligations.WrUnmappedChangesNothing := by
  refine ⟨fun s a d ha => ?offsets, fun s w => ⟨rfl, rfl, rfl, rfl, rfl, rfl, rfl⟩,
    fun s a d => ⟨_, exec_write s a d, s.writeAt_stereoEnabled (locate a) d⟩⟩
  case offsets =>
    obtain ⟨g, hg⟩ := locate_eq_unmapped ha
    exact (exec_write s a d).trans (congrArg _ (writeReg_unmapped s d hg))

end Sys2Proof.Machine
end

section
/-! PROOFS. The event word (30_encoding.md R100 to R109): what each event's word decodes to, what a word's event is
encoded as, and the one row of the opcode table that a word selects. -/

namespace Sys2Proof

/-! ### The unmapped stretches of the window (R72, R107) -/

/-- The lowest offset of a stretch. -/
def Gap.first : Gap → Byte
  | .from28 => 0x28
  | .from31 => 0x31
  | .from32 => 0x32
  | .from34 => 0x34
  | .from38 => 0x38
  | .from40 => 0x40
  | .from80 => 0x80

/-- The highest offset of a stretch. -/
def Gap.last : Gap → Byte
  | .from28 => 0x2F
  | .from31 => 0x31
  | .from32 => 0x33
  | .from34 => 0x37
  | .from38 => 0x3F
  | .from40 => 0x7F
  | .from80 => 0xFF

/-- The READ event of an offset of a stretch. -/
def Gap.readEvent (a : Byte) : Gap → Instr
  | .from28 => .rdUnmapped28 a
  | .from31 => .rdUnmapped31 a
  | .from32 => .rdUnmapped32 a
  | .from34 => .rdUnmapped34 a
  | .from38 => .rdUnmapped38 a
  | .from40 => .rdUnmapped40 a
  | .from80 => .rdUnmapped80 a

/-- The WRITE event of an offset of a stretch. -/
def Gap.writeEvent (w : UnmappedWrite) : Gap → Instr
  | .from28 => .wrUnmapped28 w
  | .from31 => .wrUnmapped31 w
  | .from32 => .wrUnmapped32 w
  | .from34 => .wrUnmapped34 w
  | .from38 => .wrUnmapped38 w
  | .from40 => .wrUnmapped40 w
  | .from80 => .wrUnmapped80 w

/-- A stretch is exactly the offsets from its first to its last. -/
theorem locate_eq_unmapped_iff (a : Byte) (g : Gap) :
    locate a = .unmapped g ↔ offsetIn g.first g.last a = true := by
  cases g <;> revert a <;> decide

theorem decodeRead_unmapped {a : Byte} {g : Gap} (h : locate a = .unmapped g) :
    decodeRead a = g.readEvent a := by
  rw [decodeRead, h]
  cases g <;> rfl

theorem decodeWrite_unmapped {a : Byte} {g : Gap} (d : Byte) (h : locate a = .unmapped g) :
    decodeWrite a d = g.writeEvent ⟨a, d⟩ := by
  rw [decodeWrite, h]
  cases g <;> rfl

theorem decode_readWord (a : Byte) : decode (readWord a) = decodeRead a := decode_read a 0

theorem decode_writeWord (a d : Byte) : decode (writeWord a d) = decodeWrite a d := decode_write a d

/-- The word of a READ in a stretch decodes to the stretch's own event. -/
theorem decode_readWord_gap {a : Byte} (g : Gap) (h : offsetIn g.first g.last a = true) :
    decode (readWord a) = g.readEvent a :=
  (decode_readWord a).trans (decodeRead_unmapped ((locate_eq_unmapped_iff a g).mpr h))

/-- The word of a WRITE in a stretch decodes to the stretch's own event, its data byte kept. -/
theorem decode_writeWord_gap {w : UnmappedWrite} (g : Gap)
    (h : offsetIn g.first g.last w.offset = true) :
    decode (writeWord w.offset w.data) = g.writeEvent w :=
  (decode_writeWord w.offset w.data).trans
    (decodeWrite_unmapped w.data ((locate_eq_unmapped_iff w.offset g).mpr h))

/-! ### Decoding an encoded event -/

/-- Settles O2, event by event: the registers by their offsets, the unmapped accesses by their stretches. -/
theorem decodeEncodeRoundTrip : Obligations.DecodeEncodeRoundTrip := by
  intro i hwf
  cases i with
  | rdVol c => exact decode_read_channelOffset c 0 0
  | rdFben c => exact decode_read_channelOffset c 1 0
  | rdOut c => exact decode_read_channelOffset c 2 0
  | rdSrlo c => exact decode_read_channelOffset c 3 0
  | rdSrhi c => exact decode_read_channelOffset c 4 0
  | rdBkup c => exact decode_read_channelOffset c 5 0
  | rdCtl c => exact decode_read_channelOffset c 6 0
  | rdCnt c => exact decode_read_channelOffset c 7 0
  | rdAttl c => exact decode_read_attenOffset_left c 0
  | rdAttr c => exact decode_read_attenOffset_right c 0
  | rdMvol => exact decode_read_masterVolume 0
  | rdUnmapped28 a => exact decode_readWord_gap .from28 hwf
  | rdUnmapped31 a => exact decode_readWord_gap .from31 hwf
  | rdUnmapped32 a => exact decode_readWord_gap .from32 hwf
  | rdUnmapped34 a => exact decode_readWord_gap .from34 hwf
  | rdUnmapped38 a => exact decode_readWord_gap .from38 hwf
  | rdUnmapped40 a => exact decode_readWord_gap .from40 hwf
  | rdUnmapped80 a => exact decode_readWord_gap .from80 hwf
  | wrVol c d => exact decode_write_channelOffset c 0 d
  | wrFben c d => exact decode_write_channelOffset c 1 d
  | wrOut c d => exact decode_write_channelOffset c 2 d
  | wrSrlo c d => exact decode_write_channelOffset c 3 d
  | wrSrhi c d => exact decode_write_channelOffset c 4 d
  | wrBkup c d => exact decode_write_channelOffset c 5 d
  | wrCtl c d => exact decode_write_channelOffset c 6 d
  | wrCnt c d => exact decode_write_channelOffset c 7 d
  | wrAttl c d => exact decode_write_attenOffset_left c d
  | wrAttr c d => exact decode_write_attenOffset_right c d
  | wrMvol d => exact decode_write_masterVolume d
  | wrUnmapped28 w => exact decode_writeWord_gap .from28 hwf
  | wrUnmapped31 w => exact decode_writeWord_gap .from31 hwf
  | wrUnmapped32 w => exact decode_writeWord_gap .from32 hwf
  | wrUnmapped34 w => exact decode_writeWord_gap .from34 hwf
  | wrUnmapped38 w => exact decode_writeWord_gap .from38 hwf
  | wrUnmapped40 w => exact decode_writeWord_gap .from40 hwf
  | wrUnmapped80 w => exact decode_writeWord_gap .from80 hwf
  | tick => exact decode_tick 0 0
  | frameEnd => exact decode_frameEnd 0 0
  | setStereo b => cases b <;> exact decode_setStereo 0 _
  | reset => exact decode_reset 0 0
  | reserved6 => exact decode_reserved6 0 0
  | reserved7 => exact decode_reserved7 0 0

/-! ### Every op and every offset of a word (R101, R72) -/

/-- A 3-bit field (an op, a register's index) is one of the eight. -/
theorem field_cases (x : BitVec 3) :
    x = 0#3 ∨ x = 1#3 ∨ x = 2#3 ∨ x = 3#3 ∨ x = 4#3 ∨ x = 5#3 ∨ x = 6#3 ∨ x = 7#3 := by
  revert x; decide

/-- Every offset is that of a channel register, of an attenuation, of MasterVolume, or unmapped. -/
theorem offset_cases (a : Byte) :
    (∃ c i, a = channelOffset c i) ∨ (∃ c, a = attenOffset c 0) ∨ (∃ c, a = attenOffset c 1) ∨
      a = 0x30#8 ∨ ∃ g, locate a = .unmapped g := by
  have hoff := offsetOf_locate a
  cases h : locate a with
  | channel c r =>
    rw [h] at hoff
    cases r <;> exact .inl ⟨c, _, (Option.some.inj (hoff.resolve_left nofun)).symm⟩
  | atten c side =>
    rw [h] at hoff
    cases side with
    | left => exact .inr (.inl ⟨c, (Option.some.inj (hoff.resolve_left nofun)).symm⟩)
    | right => exact .inr (.inr (.inl ⟨c, (Option.some.inj (hoff.resolve_left nofun)).symm⟩))
  | masterVolume =>
    rw [h] at hoff
    exact .inr (.inr (.inr (.inl (Option.some.inj (hoff.resolve_left nofun)).symm)))
  | unmapped g => exact .inr (.inr (.inr (.inr ⟨g, rfl⟩)))

/-- What holds of the packing of every three fields holds of every word. -/
theorem forall_word_of_forall_packWord {P : EventWord → Prop} (h : ∀ op a d, P (packWord op a d))
    (w : EventWord) : P w :=
  packWord_of_fields w ▸ h (opField w) (addrField w) (dataField w)

/-! ### Decoded events are well formed -/

theorem decode_read_wellFormed (a d : Byte) : (decode (packWord 0#3 a d)).wellFormed = true := by
  obtain ⟨c, i, rfl⟩ | ⟨c, rfl⟩ | ⟨c, rfl⟩ | rfl | ⟨g, hg⟩ := offset_cases a
  · rw [decode_read_channelOffset]; cases channelRegOf i <;> rfl
  · rw [decode_read_attenOffset_left]; rfl
  · rw [decode_read_attenOffset_right]; rfl
  · rw [decode_read_masterVolume]; rfl
  · have hin := (locate_eq_unmapped_iff a g).mp hg
    rw [decode_read, decodeRead_unmapped hg]
    cases g <;> exact hin

theorem decode_write_wellFormed (a d : Byte) : (decode (packWord 1#3 a d)).wellFormed = true := by
  obtain ⟨c, i, rfl⟩ | ⟨c, rfl⟩ | ⟨c, rfl⟩ | rfl | ⟨g, hg⟩ := offset_cases a
  · rw [decode_write_channelOffset]; cases channelRegOf i <;> rfl
  · rw [decode_write_attenOffset_left]; rfl
  · rw [decode_write_attenOffset_right]; rfl
  · rw [decode_write_masterVolume]; rfl
  · have hin := (locate_eq_unmapped_iff a g).mp hg
    rw [decode_write, decodeWrite_unmapped d hg]
    cases g <;> exact hin

/-- Settles O4: only an access has an operand that could be out of range. -/
theorem decodedWordsAreWellFormed : Obligations.DecodedWordsAreWellFormed := by
  refine forall_word_of_forall_packWord fun op a d => ?_
  obtain rfl | rfl | rfl | rfl | rfl | rfl | rfl | rfl := field_cases op
  · exact decode_read_wellFormed a d
  · exact decode_write_wellFormed a d
  · rw [decode_tick]; rfl
  · rw [decode_frameEnd]; rfl
  · rw [decode_setStereo]; rfl
  · rw [decode_reset]; rfl
  · rw [decode_reserved6]; rfl
  · rw [decode_reserved7]; rfl

/-! ### Encoding a decoded word: the canonical spelling (R109) -/

theorem encode_readEvent (c : ChanIx) (i : BitVec 3) :
    encode ((channelRegOf i).readEvent c) = readWord (channelOffset c i) := by
  obtain rfl | rfl | rfl | rfl | rfl | rfl | rfl | rfl := field_cases i <;> rfl

theorem encode_writeEvent (c : ChanIx) (i : BitVec 3) (d : Byte) :
    encode ((channelRegOf i).writeEvent c d) = writeWord (channelOffset c i) d := by
  obtain rfl | rfl | rfl | rfl | rfl | rfl | rfl | rfl := field_cases i <;> rfl

/-- A READ keeps its offset and loses its data byte. -/
theorem encode_decode_read (a d : Byte) : encode (decode (packWord 0#3 a d)) = packWord 0#3 a 0 := by
  obtain ⟨c, i, rfl⟩ | ⟨c, rfl⟩ | ⟨c, rfl⟩ | rfl | ⟨g, hg⟩ := offset_cases a
  · rw [decode_read_channelOffset]; exact encode_readEvent c i
  · rw [decode_read_attenOffset_left]; rfl
  · rw [decode_read_attenOffset_right]; rfl
  · rw [decode_read_masterVolume]; rfl
  · rw [decode_read, decodeRead_unmapped hg]
    cases g <;> rfl

/-- A WRITE keeps both operands. -/
theorem encode_decode_write (a d : Byte) : encode (decode (packWord 1#3 a d)) = packWord 1#3 a d := by
  obtain ⟨c, i, rfl⟩ | ⟨c, rfl⟩ | ⟨c, rfl⟩ | rfl | ⟨g, hg⟩ := offset_cases a
  · rw [decode_write_channelOffset]; exact encode_writeEvent c i d
  · rw [decode_write_attenOffset_left]; rfl
  · rw [decode_write_attenOffset_right]; rfl
  · rw [decode_write_masterVolume]; rfl
  · rw [decode_write, decodeWrite_unmapped d hg]
    cases g <;> rfl

/-- The data byte of a canonical SET_STEREO is the used bit alone. -/
theorem and_one_eq_ite (d : Byte) : d &&& 1 = if d.getLsbD 0 then 1 else 0 := by
  revert d; decide

/-- Settles O6, op by op. -/
theorem encodeDecodeIsCanonical : Obligations.EncodeDecodeIsCanonical := by
  intro op a d
  obtain rfl | rfl | rfl | rfl | rfl | rfl | rfl | rfl := field_cases op
  · exact encode_decode_read a d
  · exact encode_decode_write a d
  · rw [decode_tick]; rfl
  · rw [decode_frameEnd]; rfl
  · rw [decode_setStereo, and_one_eq_ite]; rfl
  · rw [decode_reset]; rfl
  · rw [decode_reserved6]; rfl
  · rw [decode_reserved7]; rfl

/-! ### The row a word selects (R107) -/

/-- The bits of the offset that an unmapped row looks at. -/
def Gap.mask : Gap → Byte
  | .from28 => 0xF8
  | .from31 => 0xFF
  | .from32 => 0xFE
  | .from34 => 0xFC
  | .from38 => 0xF8
  | .from40 => 0xC0
  | .from80 => 0x80

theorem and_gapMask {a : Byte} {g : Gap} (h : locate a = .unmapped g) : a &&& g.mask = g.first := by
  revert a
  cases g <;> decide

open Laws.EncodeRow (selects_packWord channelOffset_mask attenOffset_mask)

theorem opcodeRow_readEvent (c : ChanIx) (i : BitVec 3) :
    opcodeRow ((channelRegOf i).readEvent c) = ⟨packWord 7 0xE7 0, packWord 0 (i.setWidth 8) 0⟩ := by
  obtain rfl | rfl | rfl | rfl | rfl | rfl | rfl | rfl := field_cases i <;> rfl

theorem opcodeRow_writeEvent (c : ChanIx) (i : BitVec 3) (d : Byte) :
    opcodeRow ((channelRegOf i).writeEvent c d) = ⟨packWord 7 0xE7 0, packWord 1 (i.setWidth 8) 0⟩ := by
  obtain rfl | rfl | rfl | rfl | rfl | rfl | rfl | rfl := field_cases i <;> rfl

theorem opcodeRow_gapReadEvent (a : Byte) (g : Gap) :
    opcodeRow (g.readEvent a) = ⟨packWord 7 g.mask 0, packWord 0 g.first 0⟩ := by
  cases g <;> rfl

theorem opcodeRow_gapWriteEvent (w : UnmappedWrite) (g : Gap) :
    opcodeRow (g.writeEvent w) = ⟨packWord 7 g.mask 0, packWord 1 g.first 0⟩ := by
  cases g <;> rfl

/-- A READ's word selects the row of its event, whatever its data byte. -/
theorem read_selects_own_row (a d : Byte) :
    (opcodeRow (decode (packWord 0#3 a d))).selects (packWord 0#3 a d) = true := by
  obtain ⟨c, i, rfl⟩ | ⟨c, rfl⟩ | ⟨c, rfl⟩ | rfl | ⟨g, hg⟩ := offset_cases a
  · rw [decode_read_channelOffset, opcodeRow_readEvent]
    exact selects_packWord _ _ _ rfl (channelOffset_mask c i)
  · rw [decode_read_attenOffset_left]
    exact selects_packWord (mop := 7) (vop := 0) _ _ _ rfl (attenOffset_mask c 0)
  · rw [decode_read_attenOffset_right]
    exact selects_packWord (mop := 7) (vop := 0) _ _ _ rfl (attenOffset_mask c 1)
  · rw [decode_read_masterVolume]
    exact selects_packWord (mop := 7) (vop := 0) (ma := 0xFF) (va := 0x30) _ _ _ rfl rfl
  · rw [decode_read, decodeRead_unmapped hg, opcodeRow_gapReadEvent]
    exact selects_packWord _ _ _ rfl (and_gapMask hg)

/-- A WRITE's word selects the row of its event, whatever its data byte. -/
theorem write_selects_own_row (a d : Byte) :
    (opcodeRow (decode (packWord 1#3 a d))).selects (packWord 1#3 a d) = true := by
  obtain ⟨c, i, rfl⟩ | ⟨c, rfl⟩ | ⟨c, rfl⟩ | rfl | ⟨g, hg⟩ := offset_cases a
  · rw [decode_write_channelOffset, opcodeRow_writeEvent]
    exact selects_packWord _ _ _ rfl (channelOffset_mask c i)
  · rw [decode_write_attenOffset_left]
    exact selects_packWord (mop := 7) (vop := 1) _ _ _ rfl (attenOffset_mask c 0)
  · rw [decode_write_attenOffset_right]
    exact selects_packWord (mop := 7) (vop := 1) _ _ _ rfl (attenOffset_mask c 1)
  · rw [decode_write_masterVolume]
    exact selects_packWord (mop := 7) (vop := 1) (ma := 0xFF) (va := 0x30) _ _ _ rfl rfl
  · rw [decode_write, decodeWrite_unmapped d hg, opcodeRow_gapWriteEvent]
    exact selects_packWord _ _ _ rfl (and_gapMask hg)

/-- A row that looks at the op alone is selected by every word of that op. -/
theorem selects_of_op (op : BitVec 3) (a d : Byte) :
    (OpcodeRow.mk (packWord 7 0 0) (packWord op 0 0)).selects (packWord op a d) = true :=
  selects_packWord op a d (BitVec.and_allOnes (x := op)) BitVec.and_zero

theorem word_selects_own_row (w : EventWord) : (opcodeRow (decode w)).selects w = true := by
  revert w
  refine forall_word_of_forall_packWord fun op a d => ?_
  obtain rfl | rfl | rfl | rfl | rfl | rfl | rfl | rfl := field_cases op
  · exact read_selects_own_row a d
  · exact write_selects_own_row a d
  · rw [decode_tick]; exact selects_of_op 2 a d
  · rw [decode_frameEnd]; exact selects_of_op 3 a d
  · rw [decode_setStereo]; exact selects_of_op 4 a d
  · rw [decode_reset]; exact selects_of_op 5 a d
  · rw [decode_reserved6]; exact selects_of_op 6 a d
  · rw [decode_reserved7]; exact selects_of_op 7 a d

/-- Two rows that disagree on a bit both look at. -/
abbrev OpcodeRow.Conflict (r q : OpcodeRow) : Prop :=
  r.mask &&& q.mask &&& (r.value ^^^ q.value) ≠ 0

theorem not_selects_of_conflict {r q : OpcodeRow} {w : EventWord} (hr : r.selects w = true)
    (hq : q.selects w = true) : ¬ r.Conflict q := by
  have er : w &&& r.mask = r.value := beq_iff_eq.mp hr
  have eq : w &&& q.mask = q.value := beq_iff_eq.mp hq
  rw [not_not, ← er, ← eq]
  apply BitVec.eq_of_getLsbD_eq
  intro i hi
  simp only [BitVec.getLsbD_and, BitVec.getLsbD_xor]
  cases r.mask.getLsbD i <;> cases q.mask.getLsbD i <;> simp

/-- The table's rows exclude each other. -/
theorem opcodeRows_conflict : opcodeRows.Pairwise OpcodeRow.Conflict := by
  decide

/-- The table has a row for every event. -/
theorem opcodeRow_mem (i : Instr) : opcodeRow i ∈ opcodeRows := by
  cases i <;> exact List.mem_of_elem_eq_true rfl

/-- Of elements of which no two meet p, a filter by p leaves the one that does. -/
theorem filter_eq_singleton {α : Type} {l : List α} {R : α → α → Prop} {p : α → Bool} {x : α}
    (hR : l.Pairwise R) (hp : ∀ y z, p y = true → p z = true → ¬ R y z) (hx : x ∈ l)
    (hpx : p x = true) : l.filter p = [x] := by
  have hmem : x ∈ l.filter p := List.mem_filter.mpr ⟨hx, hpx⟩
  have hpair : (l.filter p).Pairwise R := hR.filter p
  have hall : ∀ y ∈ l.filter p, p y = true := fun y hy => (List.mem_filter.mp hy).2
  match l.filter p, hmem, hpair, hall with
  | [y], hmem, _, _ => rw [List.mem_singleton.mp hmem]
  | y :: z :: _, _, hpair, hall =>
    exact absurd (List.rel_of_pairwise_cons hpair (by simp)) (hp y z (hall y (by simp)) (hall z (by simp)))

/-- Settles O3: a word selects its event's row, and no word selects two. -/
theorem wordSelectsExactlyItsRow : Obligations.WordSelectsExactlyItsRow := fun w =>
  filter_eq_singleton opcodeRows_conflict (fun _ _ => not_selects_of_conflict)
    (opcodeRow_mem (decode w)) (word_selects_own_row w)

/-! ### Ignored bits (R102, R103) -/

/-- Settles O5, field by field; an unmapped WRITE by its stretch's row and by its having no effect. -/
theorem ignoredBitsDoNotMatter : Obligations.IgnoredBitsDoNotMatter := by
  simp only [Obligations.IgnoredBitsDoNotMatter, BitVec.ofNat_eq_ofNat]
  refine ⟨fun a d d' => ?read, fun op hop a d a' d' => ?noOperand, fun a d a' d' hbit => ?stereo,
    fun a g d d' hg => ⟨?row, fun s => ?effect⟩⟩
  case read => rw [decode_read, decode_read]
  case noOperand =>
    simp only [List.mem_cons, List.not_mem_nil, or_false] at hop
    obtain rfl | rfl | rfl | rfl | rfl := hop
    · rw [decode_tick, decode_tick]
    · rw [decode_frameEnd, decode_frameEnd]
    · rw [decode_reset, decode_reset]
    · rw [decode_reserved6, decode_reserved6]
    · rw [decode_reserved7, decode_reserved7]
  case stereo => rw [decode_setStereo, decode_setStereo, hbit]
  case row =>
    rw [decode_write, decode_write, decodeWrite_unmapped d hg, decodeWrite_unmapped d' hg,
      opcodeRow_gapWriteEvent, opcodeRow_gapWriteEvent]
  case effect =>
    rw [Machine.exec_write, Machine.exec_write, Machine.writeReg_unmapped s d hg,
      Machine.writeReg_unmapped s d' hg]

/-- Settles O1: fifteen words, decoded. -/
theorem knownWordsDecode : Obligations.KnownWordsDecode := by
  unfold Obligations.KnownWordsDecode
  decide

end Sys2Proof
end

section
/-! PROOFS. The output stage (44_output_stage.md R260 to R264): what a hand-off holds, and that what has been
delivered followed by what is buffered grows by exactly the frames an event produces. -/

namespace Sys2Proof.Machine

/-! ### A hand-off (R261, R263) -/

theorem frameCountOf_toNat {n : Nat} (h : n < 2 ^ 32) : (frameCountOf n).toNat = n := by
  rw [frameCountOf_of_lt h, BitVec.toNat_ofNat, Nat.mod_eq_of_lt h]

theorem exec_frameEnd (s : State) : exec .frameEnd s = .next (flush s) := rfl

/-- Settles O42: the flush, written out. -/
theorem frameEndHandsOffBuffer : Obligations.FrameEndHandsOffBuffer :=
  fun s a d => ⟨decode_frameEnd a d, exec_frameEnd s⟩

/-- Settles O43: the count below 2 ^ 32, and the hand-off of FRAME_END. -/
theorem frameCountIsExact : Obligations.FrameCountIsExact := by
  refine ⟨fun n hn => frameCountOf_toNat hn, fun s hs => ?_⟩
  have hcount : (handOffOf s).frameCount.toNat = s.buf.length := frameCountOf_toNat hs
  refine ⟨flush s, handOffOf s, exec_frameEnd s, flush_sink s, hcount, ?_⟩
  rw [hcount]
  exact interleave_length s.buf

/-- Settles O44, by induction on the frames. -/
theorem interleaveOrder : Obligations.InterleaveOrder := by
  refine fun frames => ⟨interleave_length frames, fun k => ?_⟩
  induction frames generalizing k with
  | nil => exact ⟨rfl, rfl⟩
  | cons f fs ih =>
    cases k with
    | zero => exact ⟨rfl, rfl⟩
    | succ k => exact ih k

/-! ### Nothing is lost (R264) -/

/-- What has been produced is read off the sink's record and the buffer alone. -/
theorem emitted_congr {s t : State} (hsink : t.sink = s.sink) (hbuf : t.buf = s.buf) :
    emitted t = emitted s := by
  rw [emitted, emitted, hsink, hbuf]

/-- An appended frame comes last, whether or not it fills the buffer. -/
theorem emitted_appendFrame (s : State) (f : Frame) :
    emitted (appendFrame s f) = emitted s ++ interleave [f] := by
  have hbuffered : emitted { s with buf := s.buf ++ [f] } = emitted s ++ interleave [f] := by
    simp [emitted]
  rcases appendFrame_cases s f with ⟨-, h⟩ | ⟨-, h⟩
  · rw [h, emitted_flush, hbuffered]
  · rw [h, hbuffered]

theorem emitted_sampleStep (s : State) :
    emitted (sampleStep s) =
      emitted s ++ interleave (if s.sampleTick + 1 = s.params.sampleDiv then [mix s] else []) := by
  rcases sampleStep_cases s with ⟨hdiv, h⟩ | ⟨hdiv, h⟩
  · rw [h, if_pos hdiv, emitted_appendFrame, mix_congr (t := s) rfl rfl rfl]
    rfl
  · rw [h, if_neg hdiv, interleave_nil, List.append_nil]
    rfl

theorem producedBy_tick (s : State) : producedBy .tick s =
    if s.sampleTick + 1 = s.params.sampleDiv then [mix (tickChannels s)] else [] := by
  simp [producedBy]

theorem producedBy_of_ne_tick {i : Instr} (h : i ≠ .tick) (s : State) : producedBy i s = [] :=
  if_neg fun htick => h htick.1

/-- RESET hands off what it clears. -/
theorem emitted_reset (s : State) :
    emitted (resetFields (if s.bufCount > 0 then flush s else s)) = emitted s := by
  by_cases hbuf : s.bufCount > 0
  · rw [if_pos hbuf, emitted_congr (resetFields_sink _) (flush_buf s).symm, emitted_flush]
  · have hnil : s.buf = [] := List.eq_nil_of_length_eq_zero (Nat.eq_zero_of_not_pos hbuf)
    rw [if_neg hbuf, emitted_congr (resetFields_sink s) hnil.symm]

/-- An outcome is at most one next state. -/
theorem next_unique {r : Result} {s t : State} (hs : r = .next s) (ht : r = .next t) : s = t :=
  Host.Outcome.next.inj (hs.symm.trans ht)

theorem emitted_of_ne_tick {i : Instr} {s t : State} (hi : i ≠ .tick) (h : exec i s = .next t) :
    emitted t = emitted s := by
  rcases exec_cases i s with ⟨-, l, e⟩ | ⟨-, l, d, -, e⟩ | ⟨htick, -⟩ | ⟨-, e⟩ | ⟨b, -, e⟩ | ⟨-, e⟩ | ⟨-, e⟩
  · obtain rfl := next_unique e h; rfl
  · obtain rfl := next_unique e h; exact emitted_congr (s.writeAt_sink l d) (s.writeAt_buf l d)
  · exact absurd htick hi
  · obtain rfl := next_unique e h; exact emitted_flush s
  · obtain rfl := next_unique e h; rfl
  · obtain rfl := next_unique e h; exact emitted_reset s
  · exact nomatch e.symm.trans h

/-- Settles O45: only a TICK produces; the flushes of FRAME_END, RESET and a full buffer move samples to the sink. -/
theorem noFrameLost : Obligations.NoFrameLost := by
  intro i s t h
  by_cases hi : i = .tick
  · subst hi
    obtain rfl := next_unique (exec_tick s) h
    rw [emitted_sampleStep, producedBy_tick]
    rfl
  · rw [emitted_of_ne_tick hi h, producedBy_of_ne_tick hi, interleave_nil, List.append_nil]

end Sys2Proof.Machine
end

section
/-! PROOFS. The step (20_memory.md R77, R78, R85): which event or host operation an input is, and that what the sink
has received decides none of them. -/

namespace Sys2Proof.Machine

/-! ### One input a step -/

theorem step_of_nil {s : State} (h : s.inputs = []) : step s = .next s := by
  rw [step, advance, h]

theorem step_of_cons {s : State} {x : Input} {rest : List Input} (h : s.inputs = x :: rest) :
    step s = deliver x (s.accept rest) := by
  rw [step, advance, h]

/-- Settles O8: delivering an event word is running its event. -/
theorem stepRunsDecodedEvent : Obligations.StepRunsDecodedEvent := fun _ _ _ h => step_of_cons h

/-- Settles O9: no input, then the two accesses by their width. -/
theorem stepOfBusAccess : Obligations.StepOfBusAccess := by
  refine ⟨fun s => step_of_nil, fun s a n rest h => ?read, fun s a d rest h => ?write,
    fun s a data rest hlen h => ?width⟩
  case read =>
    rw [step_of_cons h, decode_readWord]
    rfl
  case write =>
    rw [step_of_cons h, decode_writeWord]
    rfl
  case width =>
    rw [step_of_cons h]
    match data, hlen with
    | [], _ => rfl
    | [d], hlen => exact absurd rfl hlen
    | _ :: _ :: _, _ => rfl

/-! ### Which events complete (R300) -/

/-- Settles O10: by the kinds of event; the unmapped offsets as for O22. -/
theorem everyOtherEventCompletes : Obligations.EveryOtherEventCompletes := by
  refine ⟨fun i s h6 h7 => ?_, fun _ _ f => (nomatch f), wrUnmappedChangesNothing.1⟩
  rcases exec_cases i s with ⟨-, l, e⟩ | ⟨-, l, d, -, e⟩ | ⟨-, e⟩ | ⟨-, e⟩ | ⟨b, -, e⟩ | ⟨-, e⟩ | ⟨h, -⟩
  · exact ⟨_, e⟩
  · exact ⟨_, e⟩
  · exact ⟨_, e⟩
  · exact ⟨_, e⟩
  · exact ⟨_, e⟩
  · exact ⟨_, e⟩
  · exact absurd h (not_or.mpr ⟨h6, h7⟩)

/-! ### The sink's record has no path back (R85, R265) -/

/-- The update g does the same whatever the sink has received, and adds at most one hand-off. -/
def AddsToSink (g : State → State) : Prop :=
  ∀ s : State, ∃ (t : State) (new : List HandOff), new.length ≤ 1 ∧ ∀ l : List HandOff, g { s with sink := l } = { t with sink := l ++ new }

/-- The operation f answers the same whatever the sink has received, and adds at most one hand-off. -/
def SinkBlind (f : State → Result) : Prop :=
  ∀ s : State, (∃ r, ∀ l : List HandOff, f { s with sink := l } = .refused r) ∨
    ∃ (t : State) (new : List HandOff), new.length ≤ 1 ∧ ∀ l : List HandOff, f { s with sink := l } = .next { t with sink := l ++ new }

/-- An update that leaves the sink's record as it is adds no hand-off. -/
theorem addsToSink_of_frame {g : State → State}
    (h : ∀ (s : State) (l : List HandOff), g { s with sink := l } = { g s with sink := l }) : AddsToSink g := fun s =>
  ⟨g s, [], Nat.zero_le 1, fun l => by rw [h, List.append_nil]⟩

theorem AddsToSink.sinkBlind {g : State → State} (h : AddsToSink g) : SinkBlind fun s => .next (g s) := by
  intro s
  obtain ⟨t, new, hnew, hg⟩ := h s
  exact .inr ⟨t, new, hnew, fun l => congrArg _ (hg l)⟩

theorem sinkBlind_refused (r : Refusal) : SinkBlind fun _ => .refused r := fun _ => .inl ⟨r, fun _ => rfl⟩

theorem addsToSink_flush : AddsToSink flush := fun s =>
  ⟨{ s with buf := [] }, [handOffOf s], Nat.le_refl 1, fun _ => rfl⟩

theorem addsToSink_appendFrame (f : Frame) : AddsToSink (appendFrame · f) := by
  intro s
  by_cases hfull : s.bufCount + 1 = s.params.bufCap
  · obtain ⟨t, new, hnew, hflush⟩ := addsToSink_flush { s with buf := s.buf ++ [f] }
    refine ⟨t, new, hnew, fun l => ?_⟩
    rcases appendFrame_cases { s with sink := l } f with ⟨-, h⟩ | ⟨hroom, -⟩
    · exact h.trans (hflush l)
    · exact absurd hfull hroom
  · refine ⟨{ s with buf := s.buf ++ [f] }, [], Nat.zero_le 1, fun l => ?_⟩
    rcases appendFrame_cases { s with sink := l } f with ⟨hfull', -⟩ | ⟨-, h⟩
    · exact absurd hfull' hfull
    · rw [List.append_nil]; exact h

theorem addsToSink_sampleStep : AddsToSink sampleStep := by
  intro s
  by_cases hdiv : s.sampleTick + 1 = s.params.sampleDiv
  · obtain ⟨t, new, hnew, happend⟩ :=
      addsToSink_appendFrame (mix { s with sampleTick := 0 }) { s with sampleTick := 0 }
    refine ⟨t, new, hnew, fun l => ?_⟩
    rcases sampleStep_cases { s with sink := l } with ⟨-, h⟩ | ⟨hdiv', -⟩
    · exact h.trans (happend l)
    · exact absurd hdiv hdiv'
  · refine ⟨{ s with sampleTick := s.sampleTick + 1 }, [], Nat.zero_le 1, fun l => ?_⟩
    rcases sampleStep_cases { s with sink := l } with ⟨hdiv', -⟩ | ⟨-, h⟩
    · exact absurd hdiv' hdiv
    · rw [h, List.append_nil]

theorem addsToSink_tick : AddsToSink fun s => sampleStep (tickChannels s) :=
  fun s => addsToSink_sampleStep (tickChannels s)

theorem addsToSink_reset :
    AddsToSink fun s => resetFields (if s.bufCount > 0 then flush s else s) := by
  intro s
  by_cases hbuf : s.bufCount > 0
  · obtain ⟨t, new, hnew, hflush⟩ := addsToSink_flush s
    refine ⟨resetFields t, new, hnew, fun l => ?_⟩
    change resetFields (if s.bufCount > 0 then flush { s with sink := l } else _) = _
    rw [if_pos hbuf, hflush]
    rfl
  · refine ⟨resetFields s, [], Nat.zero_le 1, fun l => ?_⟩
    change resetFields (if s.bufCount > 0 then _ else { s with sink := l }) = _
    rw [if_neg hbuf, List.append_nil]
    rfl

theorem addsToSink_writeAt (l : Location) (d : Byte) : AddsToSink (State.writeAt · l d) :=
  addsToSink_of_frame fun _ _ => by cases l <;> rfl

theorem addsToSink_answer (l : Location) : AddsToSink fun s => s.answer (s.readAt l) :=
  addsToSink_of_frame fun _ _ => by cases l <;> rfl

theorem sinkBlind_exec (i : Instr) : SinkBlind (exec i) := by
  cases i with
  | tick => exact addsToSink_tick.sinkBlind
  | frameEnd => exact addsToSink_flush.sinkBlind
  | setStereo b => exact (addsToSink_of_frame fun _ _ => rfl).sinkBlind
  | reset => exact addsToSink_reset.sinkBlind
  | reserved6 => exact sinkBlind_refused .reservedEvent
  | reserved7 => exact sinkBlind_refused .reservedEvent
  | rdVol _ | rdFben _ | rdOut _ | rdSrlo _ | rdSrhi _ | rdBkup _ | rdCtl _ | rdCnt _ | rdAttl _
  | rdAttr _ | rdMvol | rdUnmapped28 _ | rdUnmapped31 _ | rdUnmapped32 _ | rdUnmapped34 _
  | rdUnmapped38 _ | rdUnmapped40 _ | rdUnmapped80 _ =>
    exact (addsToSink_answer _).sinkBlind
  | wrVol _ _ | wrFben _ _ | wrOut _ _ | wrSrlo _ _ | wrSrhi _ _ | wrBkup _ _ | wrCtl _ _ | wrCnt _ _
  | wrAttl _ _ | wrAttr _ _ | wrMvol _ | wrUnmapped28 _ | wrUnmapped31 _ | wrUnmapped32 _
  | wrUnmapped34 _ | wrUnmapped38 _ | wrUnmapped40 _ | wrUnmapped80 _ =>
    exact (addsToSink_writeAt _ _).sinkBlind

theorem sinkBlind_restore (x : Snapshot) : SinkBlind (restore x) := by
  intro s
  cases hok : snapshotOk s.params x with
  | false => exact .inl ⟨_, fun _ => if_neg (ne_true_of_eq_false hok)⟩
  | true =>
    refine .inr ⟨restoreFields x s, [], Nat.zero_le 1, fun l => (if_pos hok).trans ?_⟩
    rw [List.append_nil]
    rfl

theorem sinkBlind_powerCycle : SinkBlind powerCycle := by
  intro s
  cases hok : paramsOk s.params with
  | false => exact .inl ⟨_, fun _ => if_neg (ne_true_of_eq_false hok)⟩
  | true =>
    refine .inr ⟨{ State.powerOn s.params with inputs := s.inputs }, [], Nat.zero_le 1,
      fun l => (if_pos hok).trans ?_⟩
    rw [List.append_nil]

theorem sinkBlind_deliver (x : Input) : SinkBlind (deliver x) := by
  cases x with
  | event w => exact sinkBlind_exec (decode w)
  | busRead a n =>
    by_cases hn : n = 1
    · subst hn; exact sinkBlind_exec (decodeRead a)
    · exact fun s => .inl ⟨_, fun _ => if_neg hn⟩
  | busWrite a data =>
    match data with
    | [d] => exact sinkBlind_exec (decodeWrite a d)
    | [] => exact sinkBlind_refused .wideAccess
    | _ :: _ :: _ => exact sinkBlind_refused .wideAccess
  | snapshot => exact (addsToSink_of_frame fun _ _ => rfl).sinkBlind
  | restore x => exact sinkBlind_restore x
  | powerCycle => exact sinkBlind_powerCycle

theorem sinkBlind_step : SinkBlind step := by
  intro s
  rcases step_cases s with ⟨h, -⟩ | ⟨x, rest, h, -⟩
  · refine .inr ⟨s, [], Nat.zero_le 1, fun l => ?_⟩
    rw [List.append_nil]
    exact step_of_nil h
  · rcases sinkBlind_deliver x (s.accept rest) with ⟨r, hr⟩ | ⟨t, new, hnew, ht⟩
    · exact .inl ⟨r, fun l => (step_of_cons (s := { s with sink := l }) h).trans (hr l)⟩
    · exact .inr ⟨t, new, hnew, fun l => (step_of_cons (s := { s with sink := l }) h).trans (ht l)⟩

/-- Settles O46: the state's own record is one of the records for which the step answers the same. -/
theorem sinkHasNoPathBack : Obligations.SinkHasNoPathBack := by
  intro s l
  rcases sinkBlind_step s with ⟨r, hr⟩ | ⟨t, new, hnew, ht⟩
  · have hs : step s = .refused r := hr s.sink
    rw [hs]
    exact hr l
  · have hs : step s = .next { t with sink := s.sink ++ new } := ht s.sink
    rw [hs]
    exact ⟨new, hnew, rfl, ht l⟩

end Sys2Proof.Machine
end

section
/-! PROOFS. READ after WRITE in the register window (20_memory.md R76, R79; 43_register_interface.md R232): a place
written and read again, and every other place. Then the registers whose bytes are parts of a field. -/

namespace Sys2Proof.Machine

/-! ### Another place (R79) -/

theorem Channel.readAtten_writeAtten_self (k : Channel) (side : Side) (d : Byte) :
    (k.writeAtten side d).readAtten side = d &&& 0x0F := by
  rw [← zext8_lowNibble]
  cases side <;> rfl

/-- The other side's attenuation reads as before. -/
theorem Channel.readAtten_writeAtten_of_ne (k : Channel) {side other : Side} (d : Byte) (h : other ≠ side) :
    (k.writeAtten side d).readAtten other = k.readAtten other := by
  cases side with
  | left =>
    cases other with
    | left => exact absurd rfl h
    | right => rfl
  | right =>
    cases other with
    | left => rfl
    | right => exact absurd rfl h

/-- A place of the window reads the same after a change of channel c that keeps what c's own places read as. -/
theorem State.readAt_modifyChan (s : State) (c : ChanIx) (f : Channel → Channel) (l : Location)
    (hreg : ∀ r, l = .channel c r → (f (s.chan c)).readReg r = (s.chan c).readReg r)
    (hatten : ∀ side, l = .atten c side → (f (s.chan c)).readAtten side = (s.chan c).readAtten side) :
    (s.modifyChan c f).readAt l = s.readAt l := by
  cases l with
  | channel e r =>
    by_cases he : e = c
    · subst he
      exact (congrArg (Channel.readReg · r) (s.chan_modifyChan_self e f)).trans (hreg r rfl)
    · exact congrArg (Channel.readReg · r) (s.chan_modifyChan_of_ne f he)
  | atten e side =>
    by_cases he : e = c
    · subst he
      exact (congrArg (Channel.readAtten · side) (s.chan_modifyChan_self e f)).trans (hatten side rfl)
    · exact congrArg (Channel.readAtten · side) (s.chan_modifyChan_of_ne f he)
  | masterVolume => rfl
  | unmapped g => rfl

/-- A write leaves every other place as it reads. -/
theorem State.readAt_writeAt_of_ne (s : State) {l m : Location} (d : Byte) (h : m ≠ l) :
    (s.writeAt l d).readAt m = s.readAt m := by
  cases l with
  | channel c r =>
    refine s.readAt_modifyChan c _ m (fun q hq => ?_) fun side _ => ?_
    · exact (s.chan c).readReg_writeReg_of_ne d fun hqr => h (hqr ▸ hq)
    · cases r <;> cases side <;> rfl
  | atten c side =>
    refine s.readAt_modifyChan c _ m (fun q _ => ?_) fun side' hside => ?_
    · cases side <;> cases q <;> rfl
    · exact (s.chan c).readAtten_writeAtten_of_ne d fun hss => h (hss ▸ hside)
  | masterVolume =>
    cases m with
    | masterVolume => exact absurd rfl h
    | channel c r => rfl
    | atten c side => rfl
    | unmapped g => rfl
  | unmapped g => rfl

/-- Two offsets of one place are unmapped or equal, so another offset reads as before a WRITE. -/
theorem readReg_writeReg_of_ne (s : State) {a b : Byte} (d : Byte) (h : b ≠ a) :
    readReg (writeReg s a d) b = readReg s b := by
  by_cases hloc : locate b = locate a
  · have hnone : offsetOf (locate b) = none := by
      by_contra hm
      exact h (locate_injective_on_mapped hloc hm)
    cases hb : locate b with
    | unmapped g => rw [readReg_unmapped _ hb, readReg_unmapped _ hb]
    | channel c r => rw [hb] at hnone; cases r <;> exact nomatch hnone
    | atten c side => rw [hb] at hnone; cases side <;> exact nomatch hnone
    | masterVolume => rw [hb] at hnone; exact nomatch hnone
  · exact s.readAt_writeAt_of_ne d hloc

/-- Settles O23: the other offsets, then the fields that no place of the window shows. -/
theorem writeLeavesOtherOffsets : Obligations.WriteLeavesOtherOffsets := by
  intro s a d
  exact ⟨writeReg s a d, exec_write s a d, fun b hb => readReg_writeReg_of_ne s d hb,
    s.writeAt_params _ d, s.writeAt_stereoEnabled _ d, s.writeAt_sampleTick _ d, s.writeAt_buf _ d,
    s.writeAt_inputs _ d, s.writeAt_reply _ d, s.writeAt_sink _ d⟩

/-! ### The same place (R232) -/

/-- What a write of d to a place leaves to be read there. -/
def keptAt (d : Byte) : Location → Byte
  | .channel _ r => if r = .shiftHigh then d &&& 0x0F else d
  | .atten _ _ => d &&& 0x0F
  | .masterVolume => d
  | .unmapped _ => 0

theorem State.readAt_writeAt_self (s : State) (l : Location) (d : Byte) :
    (s.writeAt l d).readAt l = keptAt d l := by
  cases l with
  | channel c r =>
    exact (congrArg (Channel.readReg · r) (s.chan_modifyChan_self c _)).trans
      ((s.chan c).readReg_writeReg_self r d)
  | atten c side =>
    exact (congrArg (Channel.readAtten · side) (s.chan_modifyChan_self c _)).trans
      ((s.chan c).readAtten_writeAtten_self side d)
  | masterVolume => rfl
  | unmapped g => rfl

/-- The offsets 8c + 4 are those whose register is the high nibble. -/
theorem channelRegOf_eq_shiftHigh_iff (a : Byte) :
    channelRegOf (a.extractLsb' 0 3) = .shiftHigh ↔ a &&& 7 = 4 := by
  revert a; decide

/-- What a place keeps, by its offset (R232). -/
theorem keptAt_locate (a d : Byte) :
    keptAt d (locate a) =
      if a < 0x20 then (if a &&& 7 = 4 then d &&& 0x0F else d)
      else if a < 0x28 then d &&& 0x0F
      else if a = 0x30 then d
      else 0 := by
  by_cases hblock : a < 0x20
  · rw [if_pos hblock, ← if_congr (channelRegOf_eq_shiftHigh_iff a) rfl rfl]
    exact congrArg (keptAt d) (if_pos hblock)
  · by_cases hatten : a < 0x28
    · rw [if_neg hblock, if_pos hatten]
      exact congrArg (keptAt d) ((if_neg hblock).trans (if_pos hatten))
    · by_cases hmaster : a = 0x30
      · rw [if_neg hblock, if_neg hatten, if_pos hmaster, hmaster]
        exact congrArg (keptAt d) locate_masterVolume
      · obtain ⟨g, hg⟩ : ∃ g, locate a = .unmapped g := locate_eq_unmapped (by bv_omega)
        rw [if_neg hblock, if_neg hatten, if_neg hmaster, hg]
        rfl

/-- Settles O24: the READ answers what the WRITE's place kept. -/
theorem writeReadRoundTrip : Obligations.WriteReadRoundTrip := by
  intro s a d
  refine ⟨writeReg s a d, exec_write s a d, ?_⟩
  have hkept : readReg (writeReg s a d) a = keptAt d (locate a) := s.readAt_writeAt_self (locate a) d
  rw [← keptAt_locate, ← hkept]
  exact exec_read (writeReg s a d) a 0

/-! ### Control, Volume and the two halves of ShiftRegister (R207, R223) -/

/-- The high nibble, zero-extended, is the quotient of the register. -/
theorem Channel.readReg_shiftHigh (k : Channel) :
    k.readReg .shiftHigh = BitVec.ofNat 8 (k.shiftRegister.toNat / 256) := by
  have hlt := k.shiftRegister.isLt
  apply BitVec.eq_of_toNat_eq
  rw [Channel.readReg, zext8, BitVec.toNat_setWidth, BitVec.extractLsb'_toNat, BitVec.toNat_ofNat,
    Nat.shiftRight_eq_div_pow]
  omega

/-- Bits 11:8 are kept, the low byte is d. -/
theorem Channel.writeLow_eq_ofNat (k : Channel) (d : Byte) :
    k.shiftRegister.extractLsb' 8 4 ++ d =
      BitVec.ofNat 12 (256 * (k.shiftRegister.toNat / 256) + d.toNat) := by
  have hlt := k.shiftRegister.isLt
  apply BitVec.eq_of_toNat_eq
  rw [BitVec.toNat_append, BitVec.extractLsb'_toNat, BitVec.toNat_ofNat, Nat.shiftRight_eq_div_pow,
    ← Nat.shiftLeft_add_eq_or_of_lt d.isLt, Nat.shiftLeft_eq]
  omega

/-- Settles O14: the statement's quotient is the byte of the high nibble. -/
theorem rdShiftHighAndControl : Obligations.RdShiftHighAndControl := by
  intro s c d
  rw [← Channel.readReg_shiftHigh]
  exact ⟨decode_read_channelOffset c 4 d, exec_readEvent .shiftHigh c s,
    decode_read_channelOffset c 6 d, exec_readEvent .control c s⟩

/-- Settles O19: the statement's number is the register that a low-byte WRITE stores. -/
theorem wrVolumeControlAndShiftLow : Obligations.WrVolumeControlAndShiftLow := by
  intro s c d
  rw [← Channel.writeLow_eq_ofNat]
  exact ⟨decode_write_channelOffset c 0 d, exec_writeEvent .volume c d s,
    decode_write_channelOffset c 6 d, exec_writeEvent .control c d s,
    decode_write_channelOffset c 3 d, exec_writeEvent .shiftLow c d s⟩

end Sys2Proof.Machine
end

section
/-! PROOFS. Configuration and reset (45_config_and_snapshot.md R280; 60_exceptions.md R301, R310;
70_reset_and_hazards.md R330, R331): what SET_STEREO and a Control write change, and what RESET, power-on and a
power cycle leave. -/

namespace Sys2Proof.Machine

/-! ### StereoEnabled (R41, R280) -/

theorem exec_setStereo (s : State) (b : Bool) :
    exec (.setStereo b) s = .next { s with stereoEnabled := b } := rfl

/-- Settles O47: the words of op 0b100, and the event's meaning. -/
theorem setStereoSetsTheBit : Obligations.SetStereoSetsTheBit := ⟨decode_setStereo, exec_setStereo⟩

@[simp] theorem sampleStep_stereoEnabled (s : State) : (sampleStep s).stereoEnabled = s.stereoEnabled := by
  obtain ⟨n, b, l, h⟩ := sampleStep_eq s
  rw [h]

/-- Everything RESET can do: buffered frames, if there are any, are handed off first (R330). -/
theorem exec_reset_cases (s : State) :
    (s.buf = [] ∧ exec .reset s = .next (resetFields s)) ∨
    (s.buf ≠ [] ∧ exec .reset s = .next (resetFields (flush s))) := by
  have hcount : s.bufCount > 0 ↔ s.buf ≠ [] := List.length_pos_iff
  have hexec : exec .reset s = .next (resetFields (if s.bufCount > 0 then flush s else s)) := rfl
  rw [if_congr hcount rfl rfl] at hexec
  by_cases h : s.buf = []
  · exact .inl ⟨h, by rw [hexec, if_neg (not_not_intro h)]⟩
  · exact .inr ⟨h, by rw [hexec, if_pos h]⟩

/-- Settles O48, by the kinds of event. -/
theorem onlySetStereoChangesStereo : Obligations.OnlySetStereoChangesStereo := by
  intro i s t h hne
  rcases exec_cases i s with ⟨-, l, e⟩ | ⟨-, l, d, -, e⟩ | ⟨-, e⟩ | ⟨-, e⟩ | ⟨b, rfl, e⟩ | ⟨rfl, -⟩ | ⟨-, e⟩
  · obtain rfl := next_unique e h; exact absurd rfl hne
  · obtain rfl := next_unique e h; exact absurd (s.writeAt_stereoEnabled l d) hne
  · obtain rfl := next_unique e h; exact absurd (sampleStep_stereoEnabled _) hne
  · obtain rfl := next_unique e h; exact absurd rfl hne
  · obtain rfl := next_unique e h; rfl
  · rcases exec_reset_cases s with ⟨-, e⟩ | ⟨-, e⟩
    · obtain rfl := next_unique e h; exact absurd rfl hne
    · obtain rfl := next_unique e h; exact absurd rfl hne
  · exact nomatch e.symm.trans h

/-! ### Control (R36, R37) -/

/-- Control is what its own place reads as, so a write to another place keeps it. -/
theorem control_writeAt_of_ne (s : State) {l : Location} (d : Byte) {c : ChanIx}
    (h : l ≠ .channel c .control) : ((s.writeAt l d).chan c).control = (s.chan c).control :=
  s.readAt_writeAt_of_ne d h.symm

theorem control_writeAt_self (s : State) (d : Byte) (c : ChanIx) :
    ((s.writeAt (.channel c .control) d).chan c).control = d :=
  s.readAt_writeAt_self (.channel c .control) d

theorem Channel.step_control (k : Channel) : k.step.control = k.control := by
  obtain ⟨n, r, o, h⟩ := k.step_eq
  rw [h]

/-- Settles O49, by the kinds of event: a TICK keeps Control, and a WRITE reaches it through its own place. -/
theorem onlyControlWritesChangeFlags : Obligations.OnlyControlWritesChangeFlags := by
  intro i s t c h hne
  rcases exec_cases i s with ⟨-, l, e⟩ | ⟨-, l, d, hctl, e⟩ | ⟨-, e⟩ | ⟨-, e⟩ | ⟨b, -, e⟩ | ⟨hreset, -⟩ | ⟨-, e⟩
  · obtain rfl := next_unique e h; exact absurd rfl hne
  · obtain rfl := next_unique e h
    by_cases hl : l = .channel c .control
    · subst hl
      rw [control_writeAt_self]
      exact .inl (hctl c rfl)
    · exact absurd (control_writeAt_of_ne s d hl) hne
  · obtain rfl := next_unique e h
    rw [chan_sampleStep, chan_tickChannels, Channel.step_control] at hne
    exact absurd rfl hne
  · obtain rfl := next_unique e h; exact absurd rfl hne
  · obtain rfl := next_unique e h; exact absurd rfl hne
  · exact .inr hreset
  · exact nomatch e.symm.trans h

/-! ### RESET (R330) -/

theorem chan_of_channelsAtReset {s : State} {p : Params} (h : s.ch = channelsAtReset p) (c : ChanIx) :
    s.chan c = Channel.atReset p.lfsrSeed[c.toFin] := by
  rw [State.chan, h]
  exact getElem_mapFour Channel.atReset p.lfsrSeed c.toFin c.toFin.isLt

/-- Settles O50: with and without buffered frames. -/
theorem resetLeavesResetValues : Obligations.ResetLeavesResetValues := by
  refine fun s a d => ⟨decode_reset a d, ?_⟩
  rcases exec_reset_cases s with ⟨hbuf, h⟩ | ⟨hbuf, h⟩
  · exact ⟨_, h, chan_of_channelsAtReset (resetFields_ch s), rfl, rfl, rfl, (if_pos hbuf).symm, rfl, rfl, rfl, rfl⟩
  · exact ⟨_, h, chan_of_channelsAtReset (resetFields_ch (flush s)), rfl, rfl, rfl, (if_neg hbuf).symm,
      rfl, rfl, rfl, rfl⟩

/-! ### Power-on (R8, R301, R331) -/

/-- The parameters of State.reset are within R8, whatever their open values. -/
theorem paramsOk_config : paramsOk Config.params = true := by
  refine (paramsOk_iff _).mpr ⟨Nat.le_add_left 1 _, Nat.le_add_left 1 _, fun x hx => ?_⟩
  simp only [Config.params, Vector.toList_mk, List.mem_cons, List.not_mem_nil, or_false] at hx
  obtain rfl | rfl | rfl | rfl := hx <;> omega

/-- A property of every seed, by channel number. -/
theorem forall_seed_iff (p : Params) (P : Nat → Prop) :
    (∀ x ∈ p.lfsrSeed.toList, P x) ↔ ∀ c : Fin 4, P p.lfsrSeed[c] := by
  simp only [Vector.mem_toList_iff, Vector.forall_mem_iff_forall_getElem]
  exact ⟨fun h c => h c c.isLt, fun h i hi => h ⟨i, hi⟩⟩

/-- Settles O51: the seeds are within their twelve bits. -/
theorem powerOnState : Obligations.PowerOnState := by
  refine ⟨fun c => ?_, rfl, rfl, rfl, rfl, rfl⟩
  obtain ⟨-, -, hseeds⟩ := (paramsOk_iff _).mp paramsOk_config
  have hseed := (forall_seed_iff Config.params _).mp hseeds c.toFin
  have hchan : State.reset.chan c = Channel.atReset Config.params.lfsrSeed[c.toFin] :=
    chan_of_channelsAtReset rfl c
  have hnat : (State.reset.chan c).shiftRegister.toNat = Config.params.lfsrSeed[c.toFin] := by
    rw [hchan]
    exact (BitVec.toNat_ofNat _ 12).trans (Nat.mod_eq_of_lt (by omega))
  refine ⟨hnat, fun hzero => ?_, ?_⟩
  · have hseedZero : Config.params.lfsrSeed[c.toFin] = 0 :=
      hnat.symm.trans (congrArg BitVec.toNat hzero)
    omega
  · rw [hchan]
    exact ⟨rfl, rfl, rfl, rfl, rfl, rfl, rfl, rfl⟩

/-- Settles O52: the check of the parameters is the statement's condition. -/
theorem powerCycleStartsOver : Obligations.PowerCycleStartsOver := by
  intro s rest h
  have hcond : paramsOk s.params = true ↔ 1 ≤ s.params.sampleDiv ∧ 1 ≤ s.params.bufCap ∧
      ∀ c : Fin 4, 1 ≤ s.params.lfsrSeed[c] ∧ s.params.lfsrSeed[c] ≤ 4095 := by
    rw [paramsOk_iff, forall_seed_iff]
  rw [step_of_cons h, if_congr hcond.symm rfl rfl]
  rfl

end Sys2Proof.Machine
end

section
/-! PROOFS. Snapshot and restore (45_config_and_snapshot.md R281 to R283): the numbers of a tuple and the fields of
the block determine each other. -/

namespace Sys2Proof.Machine

/-! ### The ranges of a tuple (R45, R282) -/

theorem inRange_iff (lo hi x : Int) : inRange lo hi x = true ↔ lo ≤ x ∧ x ≤ hi := by
  simp [inRange]

theorem channelTupleOk_iff (k : ChannelTuple) : channelTupleOk k = true ↔
    (0 ≤ k.volume ∧ k.volume ≤ 255) ∧ (0 ≤ k.feedbackEnable ∧ k.feedbackEnable ≤ 255) ∧
      (-128 ≤ k.output ∧ k.output ≤ 127) ∧ (0 ≤ k.shiftRegister ∧ k.shiftRegister ≤ 4095) ∧
      (0 ≤ k.backupValue ∧ k.backupValue ≤ 255) ∧ (0 ≤ k.control ∧ k.control ≤ 255) ∧
      (0 ≤ k.counter ∧ k.counter ≤ 255) ∧ (0 ≤ k.leftAtten ∧ k.leftAtten ≤ 15) ∧
      (0 ≤ k.rightAtten ∧ k.rightAtten ≤ 15) := by
  simp only [channelTupleOk, Bool.and_eq_true, inRange_iff, and_assoc]

/-- A frame of a tuple whose two samples are in range. -/
abbrev FrameInRange (f : Int × Int) : Prop :=
  (-32768 ≤ f.1 ∧ f.1 ≤ 32767) ∧ (-32768 ≤ f.2 ∧ f.2 ≤ 32767)

theorem snapshotOk_iff (p : Params) (x : Snapshot) : snapshotOk p x = true ↔
    (∀ k ∈ x.channels.toList, channelTupleOk k = true) ∧ (0 ≤ x.masterVolume ∧ x.masterVolume ≤ 255) ∧
      (0 ≤ x.sampleTick ∧ x.sampleTick < p.sampleDiv) ∧ (0 ≤ x.bufCount ∧ x.bufCount < p.bufCap) ∧
      x.bufCount = x.frames.length ∧ ∀ f ∈ x.frames, FrameInRange f := by
  simp only [snapshotOk, Bool.and_eq_true, inRange_iff, decide_eq_true_eq, List.all_eq_true, and_assoc,
    Int.le_sub_one_iff]

/-! ### Numbers and bit vectors -/

theorem ofInt_toNat {w : Nat} (x : BitVec w) : BitVec.ofInt w x.toNat = x := by
  rw [BitVec.ofInt_natCast, BitVec.ofNat_toNat, BitVec.setWidth_eq]

theorem toNat_ofInt {w : Nat} {x : Int} (hlo : 0 ≤ x) (hhi : x < 2 ^ w) :
    ((BitVec.ofInt w x).toNat : Int) = x := by
  rw [BitVec.toNat_ofInt, Int.toNat_of_nonneg (Int.emod_nonneg _ (by positivity))]
  exact Int.emod_eq_of_lt hlo (by exact_mod_cast hhi)

theorem toNat_ofInt_byte {x : Int} (h : 0 ≤ x ∧ x ≤ 255) : ((BitVec.ofInt 8 x).toNat : Int) = x :=
  toNat_ofInt h.1 (Int.lt_of_le_of_lt h.2 (by decide))

theorem toNat_ofInt_srWord {x : Int} (h : 0 ≤ x ∧ x ≤ 4095) : ((BitVec.ofInt 12 x).toNat : Int) = x :=
  toNat_ofInt h.1 (Int.lt_of_le_of_lt h.2 (by decide))

theorem toNat_ofInt_nibble {x : Int} (h : 0 ≤ x ∧ x ≤ 15) : ((BitVec.ofInt 4 x).toNat : Int) = x :=
  toNat_ofInt h.1 (Int.lt_of_le_of_lt h.2 (by decide))

theorem sext8_byte8 {x : Int} (hlo : -128 ≤ x) (hhi : x ≤ 127) : sext8 (byte8 x) = x := by
  rw [sext8, byte8, BitVec.toInt_ofInt]
  exact Int.bmod_eq_of_le (by omega) (by omega)

theorem toInt_ofInt_sample {x : Int} (hlo : -32768 ≤ x) (hhi : x ≤ 32767) :
    (BitVec.ofInt 16 x).toInt = x := by
  rw [BitVec.toInt_ofInt]
  exact Int.bmod_eq_of_le (by omega) (by omega)

/-! ### Channels, frames and the block -/

@[simp] theorem channelOfTuple_channelTuple (k : Channel) : channelOfTuple (channelTuple k) = k := by
  simp only [channelOfTuple, channelTuple, ofInt_toNat, byte8_sext8]

theorem channelTuple_channelOfTuple {k : ChannelTuple} (h : channelTupleOk k = true) :
    channelTuple (channelOfTuple k) = k := by
  obtain ⟨hvol, hfe, hout, hsr, hbk, hctl, hcnt, hl, hr⟩ := (channelTupleOk_iff k).mp h
  simp only [channelTuple, channelOfTuple, sext8_byte8 hout.1 hout.2, toNat_ofInt_srWord hsr,
    toNat_ofInt_byte hvol, toNat_ofInt_byte hfe, toNat_ofInt_byte hbk, toNat_ofInt_byte hctl,
    toNat_ofInt_byte hcnt, toNat_ofInt_nibble hl, toNat_ofInt_nibble hr]

/-- The fields of a channel are in the ranges of their types. -/
theorem channelTupleOk_channelTuple (k : Channel) : channelTupleOk (channelTuple k) = true := by
  have hvol := k.volume.isLt
  have hfe := k.feedbackEnable.isLt
  have hout := sext8_bounds k.output
  have hsr := k.shiftRegister.isLt
  have hbk := k.backupValue.isLt
  have hctl := k.control.isLt
  have hcnt := k.counter.isLt
  have hl := k.leftAtten.isLt
  have hr := k.rightAtten.isLt
  rw [channelTupleOk_iff]
  simp only [channelTuple]
  omega

/-- Restoring a block's own tuple gives every field of the block back. -/
theorem sameBlock_restoreFields (s u : State) (h : u.params = s.params) :
    SameBlock s (restoreFields (snapshotOf s) u) := by
  refine ⟨h, ?channels, ofInt_toNat s.masterVolume, rfl, Int.toNat_natCast s.sampleTick, ?frames⟩
  case channels =>
    apply Vector.ext
    intro i hi
    rw [restoreFields_ch, getElem_mapFour]
    exact (congrArg channelOfTuple (getElem_mapFour channelTuple s.ch i hi)).trans
      (channelOfTuple_channelTuple s.ch[i])
  case frames =>
    rw [restoreFields_buf, snapshotOf, List.map_map]
    refine List.map_id'' (fun f => ?_) s.buf
    simp only [Function.comp_apply, BitVec.ofInt_toInt]

/-- A tuple in range is the tuple of the block it is restored to. -/
theorem snapshotOf_restoreFields {x : Snapshot} {s : State} (h : snapshotOk s.params x = true) :
    snapshotOf (restoreFields x s) = x := by
  obtain ⟨hch, hmv, htick, -, hcount, hframes⟩ := (snapshotOk_iff s.params x).mp h
  have hchannels : mapFour channelTuple (mapFour channelOfTuple x.channels) = x.channels := by
    apply Vector.ext
    intro i hi
    rw [getElem_mapFour, getElem_mapFour]
    exact channelTuple_channelOfTuple (hch _ (Vector.mem_toList_iff.mpr (Vector.getElem_mem hi)))
  have hvolume : ((BitVec.ofInt 8 x.masterVolume).toNat : Int) = x.masterVolume :=
    toNat_ofInt_byte hmv
  have hbuf : ((restoreFields x s).buf.map fun f => (f.left.toInt, f.right.toInt)) = x.frames := by
    rw [restoreFields_buf, List.map_map]
    refine (List.map_congr_left fun f hf => ?_).trans (List.map_id x.frames)
    obtain ⟨⟨hll, hlr⟩, hrl, hrr⟩ := hframes f hf
    exact Prod.ext (toInt_ofInt_sample hll hlr) (toInt_ofInt_sample hrl hrr)
  have hlength : ((restoreFields x s).bufCount : Int) = x.bufCount := by
    rw [State.bufCount, restoreFields_buf, List.length_map, hcount]
  rw [snapshotOf, restoreFields_ch, hchannels, restoreFields_masterVolume, hvolume, hbuf, hlength,
    restoreFields_sampleTick, Int.toNat_of_nonneg htick.1]
  rfl

/-- A block that meets the invariant has its tuple in range. -/
theorem snapshotOk_snapshotOf {s : State} (h : s.Inv) : snapshotOk s.params (snapshotOf s) = true := by
  obtain ⟨-, htick, hbuf, -⟩ := h
  refine (snapshotOk_iff s.params _).mpr ⟨fun k hk => ?channel, ?volume, ?tick, ?count, ?length,
    fun f hf => ?frame⟩
  case channel =>
    rw [snapshotOf, mapFour_eq_map, Vector.toList_map] at hk
    obtain ⟨c, -, rfl⟩ := List.mem_map.mp hk
    exact channelTupleOk_channelTuple c
  case volume =>
    have hmv := s.masterVolume.isLt
    exact ⟨Int.natCast_nonneg _, by simp only [snapshotOf]; omega⟩
  case tick => exact ⟨Int.natCast_nonneg _, Int.ofNat_lt.mpr htick⟩
  case count => exact ⟨Int.natCast_nonneg _, Int.ofNat_lt.mpr hbuf⟩
  case length => simp [snapshotOf, State.bufCount]
  case frame =>
    obtain ⟨g, -, rfl⟩ := List.mem_map.mp hf
    have hl := And.intro (BitVec.le_toInt g.left) (BitVec.toInt_lt (x := g.left))
    have hr := And.intro (BitVec.le_toInt g.right) (BitVec.toInt_lt (x := g.right))
    omega

/-! ### The restore input (R282, R283) -/

/-- Settles O54: the tuple of a good block is in range, and restoring it gives the block back. -/
theorem restoreOfSnapshot : Obligations.RestoreOfSnapshot := by
  intro s u rest hinv hparams hinputs
  have hok : snapshotOk (u.accept rest).params (snapshotOf s) = true := by
    rw [State.accept_params, hparams]
    exact snapshotOk_snapshotOf hinv
  exact ⟨_, (step_of_cons hinputs).trans (if_pos hok), sameBlock_restoreFields s _ hparams, rfl, rfl, rfl⟩

/-- Settles O55: the check of the tuple is the statement's condition. -/
theorem restoreRefusesOutOfRange : Obligations.RestoreRefusesOutOfRange := by
  intro s x rest hinputs
  simp only [← channelTupleOk_iff]
  rcases restore_cases x (s.accept rest) with ⟨hok, h⟩ | ⟨hok, h⟩
  · rw [if_pos ((snapshotOk_iff s.params x).mp hok)]
    exact ⟨_, (step_of_cons hinputs).trans h, snapshotOf_restoreFields hok, rfl, rfl⟩
  · rw [if_neg fun hc => ne_true_of_eq_false hok ((snapshotOk_iff s.params x).mpr hc)]
    exact (step_of_cons hinputs).trans h

/-! ### The tuple as a list (R281) -/

/-- Blocks of one positive length, put end to end, can be told apart. -/
theorem flatMap_injective {α β : Type} {f : α → List β} {n : Nat} (hf : Function.Injective f)
    (hlen : ∀ a, (f a).length = n + 1) : Function.Injective (List.flatMap f) := by
  have hne : ∀ (a : α) (l : List α), List.flatMap f (a :: l) ≠ [] := fun a l h => by
    have ha : f a = [] := (List.append_eq_nil_iff.mp h).1
    exact absurd (hlen a) (by simp [ha])
  intro l
  induction l with
  | nil =>
    intro m h
    cases m with
    | nil => rfl
    | cons b m => exact absurd h.symm (hne b m)
  | cons a l ih =>
    intro m h
    cases m with
    | nil => exact absurd h (hne a l)
    | cons b m =>
      obtain ⟨hab, hlm⟩ := List.append_inj h ((hlen a).trans (hlen b).symm)
      rw [hf hab, ih hlm]

theorem channelTupleList_injective : Function.Injective channelTupleList := by
  rintro ⟨⟩ ⟨⟩ h
  simpa [channelTupleList] using h

theorem channelTupleList_length (k : ChannelTuple) : (channelTupleList k).length = 9 := rfl

theorem pairList_injective : Function.Injective fun f : Int × Int => [f.1, f.2] := by
  rintro ⟨⟩ ⟨⟩ h
  simpa using h

theorem boolNumber_injective : Function.Injective fun b : Bool => if b then (1 : Int) else 0 := by
  decide

theorem length_flatMap_channelTupleList (v : Vector ChannelTuple 4) :
    (v.toList.flatMap channelTupleList).length = 36 := by
  simp [List.length_flatMap, channelTupleList_length]

/-- The list determines the tuple: four channels of nine numbers, four numbers, and the frames in pairs. -/
theorem snapshotList_injective : Function.Injective snapshotList := by
  rintro ⟨ch, mv, stereo, tick, count, frames⟩ ⟨ch', mv', stereo', tick', count', frames'⟩ h
  have hlen := (length_flatMap_channelTupleList ch).trans (length_flatMap_channelTupleList ch').symm
  obtain ⟨hhead, hframes⟩ := List.append_inj h (by rw [List.length_append, hlen, List.length_append]; rfl)
  obtain ⟨hch, hmid⟩ := List.append_inj hhead hlen
  obtain rfl : ch = ch' :=
    Vector.toList_inj.mp (flatMap_injective channelTupleList_injective channelTupleList_length hch)
  obtain rfl : frames = frames' := flatMap_injective (n := 1) pairList_injective (fun _ => rfl) hframes
  simp only [List.cons.injEq] at hmid
  obtain ⟨rfl, hstereo, rfl, rfl, -⟩ := hmid
  obtain rfl : stereo = stereo' := boolNumber_injective hstereo
  rfl

/-- Two blocks that are both the same as a third are the same. -/
theorem sameBlock_of_common {s u r : State} (hs : SameBlock s r) (hu : SameBlock u r) : SameBlock s u := by
  obtain ⟨hp, hc, hm, he, ht, hb⟩ := hs
  obtain ⟨hp', hc', hm', he', ht', hb'⟩ := hu
  exact ⟨hp'.symm.trans hp, hc'.symm.trans hc, hm'.symm.trans hm, he'.symm.trans he, ht'.symm.trans ht,
    hb'.symm.trans hb⟩

/-- Settles O53: the tuple determines the block because restoring it gives the block back. -/
theorem snapshotHoldsTheBlock : Obligations.SnapshotHoldsTheBlock := by
  refine ⟨fun s rest h => step_of_cons h, fun s u hlist hparams => ?_⟩
  have htuple : snapshotOf s = snapshotOf u := snapshotList_injective hlist
  have hs := sameBlock_restoreFields s u hparams.symm
  have hu := sameBlock_restoreFields u u rfl
  rw [← htuple] at hu
  exact sameBlock_of_common hs hu

end Sys2Proof.Machine
end

section
/-! PROOFS. What every step keeps (10_state.md R45; 00_scope.md R8): the parameters, and the invariant. -/

namespace Sys2Proof.Machine

/-! ### What a step can leave -/

/-- Everything an input can leave: what an event leaves, the block with a tuple in the reply, a tuple in range
restored, or the power-on state. -/
theorem deliver_next_cases {x : Input} {s t : State} (h : deliver x s = .next t) :
    (∃ i, exec i s = .next t) ∨ t = { s with reply := .snapshot (snapshotOf s) } ∨
    (∃ y, snapshotOk s.params y = true ∧ t = restoreFields y s) ∨
    (paramsOk s.params = true ∧
      t = { State.powerOn s.params with inputs := s.inputs, sink := s.sink }) := by
  cases x with
  | event w => exact .inl ⟨_, h⟩
  | busRead a n =>
    by_cases hn : n = 1
    · subst hn; exact .inl ⟨_, h⟩
    · exact nomatch (if_neg hn).symm.trans h
  | busWrite a data =>
    match data with
    | [d] => exact .inl ⟨_, h⟩
    | [] => exact nomatch h
    | _ :: _ :: _ => exact nomatch h
  | snapshot => exact .inr (.inl (next_unique h rfl))
  | restore y =>
    rcases restore_cases y s with ⟨hok, e⟩ | ⟨-, e⟩
    · exact .inr (.inr (.inl ⟨y, hok, next_unique h e⟩))
    · exact nomatch e.symm.trans h
  | powerCycle =>
    rcases powerCycle_cases s with ⟨hok, e⟩ | ⟨-, e⟩
    · exact .inr (.inr (.inr ⟨hok, next_unique h e⟩))
    · exact nomatch e.symm.trans h

/-! ### The parameters (R8) -/

@[simp] theorem sampleStep_params (s : State) : (sampleStep s).params = s.params := by
  obtain ⟨n, b, l, h⟩ := sampleStep_eq s
  rw [h]

theorem exec_params {i : Instr} {s t : State} (h : exec i s = .next t) : t.params = s.params := by
  rcases exec_cases i s with ⟨-, l, e⟩ | ⟨-, l, d, -, e⟩ | ⟨-, e⟩ | ⟨-, e⟩ | ⟨b, -, e⟩ | ⟨rfl, -⟩ | ⟨-, e⟩
  · obtain rfl := next_unique e h; rfl
  · obtain rfl := next_unique e h; exact s.writeAt_params l d
  · obtain rfl := next_unique e h; exact sampleStep_params _
  · obtain rfl := next_unique e h; rfl
  · obtain rfl := next_unique e h; rfl
  · rcases exec_reset_cases s with ⟨-, e⟩ | ⟨-, e⟩
    · obtain rfl := next_unique e h; rfl
    · obtain rfl := next_unique e h; rfl
  · exact nomatch e.symm.trans h

theorem deliver_params {x : Input} {s t : State} (h : deliver x s = .next t) : t.params = s.params := by
  obtain ⟨i, hi⟩ | rfl | ⟨y, -, rfl⟩ | ⟨-, rfl⟩ := deliver_next_cases h
  · exact exec_params hi
  · rfl
  · rfl
  · rfl

/-- Settles O58: an idle step, then a step of any input. -/
theorem parametersNeverChange : Obligations.ParametersNeverChange := by
  intro s t h
  rcases step_cases s with ⟨-, e⟩ | ⟨x, rest, -, e⟩
  · obtain rfl := next_unique e h; rfl
  · exact (deliver_params (e.symm.trans h)).trans (s.accept_params rest)

/-! ### The invariant (R45) -/

/-- The invariant looks at four fields. -/
theorem State.Inv.congr {s t : State} (h : s.Inv) (hp : t.params = s.params)
    (htick : t.sampleTick = s.sampleTick) (hbuf : t.buf = s.buf) (hsink : t.sink = s.sink) : t.Inv := by
  rw [State.Inv, State.bufCount, hp, htick, hbuf, hsink]
  exact h

/-- A buffer that is at most full, flushed: the hand-off is well shaped and the buffer has room. -/
theorem inv_flush {s : State} (hp : paramsOk s.params = true) (htick : s.sampleTick < s.params.sampleDiv)
    (hbuf : s.bufCount ≤ s.params.bufCap) (hsink : ∀ h ∈ s.sink, h.Ok s.params) : (flush s).Inv := by
  obtain ⟨-, hcap, -⟩ := (paramsOk_iff s.params).mp hp
  refine ⟨hp, htick, hcap, fun h hmem => ?_⟩
  rw [flush_sink, List.mem_append, List.mem_singleton] at hmem
  obtain hmem | rfl := hmem
  · exact hsink h hmem
  · exact handOffOf_ok s hbuf

theorem State.Inv.flush {s : State} (h : s.Inv) : (flush s).Inv := by
  obtain ⟨hp, htick, hbuf, hsink⟩ := h
  exact inv_flush hp htick hbuf.le hsink

/-- An appended frame fills the last place, which is flushed, or leaves room. -/
theorem State.Inv.appendFrame {s : State} (h : s.Inv) (f : Frame) : (appendFrame s f).Inv := by
  obtain ⟨hp, htick, hbuf, hsink⟩ := h
  have hcount : State.bufCount { s with buf := s.buf ++ [f] } = s.bufCount + 1 := List.length_append
  rcases appendFrame_cases s f with ⟨hfull, e⟩ | ⟨hroom, e⟩
  · rw [e]
    exact inv_flush hp htick (hcount.trans hfull).le hsink
  · rw [e]
    refine ⟨hp, htick, ?_, hsink⟩
    rw [hcount]
    exact Nat.lt_of_le_of_ne hbuf hroom

theorem State.Inv.sampleStep {s : State} (h : s.Inv) : (sampleStep s).Inv := by
  obtain ⟨hp, htick, hbuf, hsink⟩ := h
  obtain ⟨hdiv, -, -⟩ := (paramsOk_iff s.params).mp hp
  rcases sampleStep_cases s with ⟨-, e⟩ | ⟨hne, e⟩
  · rw [e]
    exact State.Inv.appendFrame (s := { s with sampleTick := 0 }) ⟨hp, hdiv, hbuf, hsink⟩ _
  · rw [e]
    exact ⟨hp, Nat.lt_of_le_of_ne htick hne, hbuf, hsink⟩

theorem State.Inv.resetFields {s : State} (h : s.Inv) : (resetFields s).Inv := by
  obtain ⟨hp, -, -, hsink⟩ := h
  obtain ⟨hdiv, hcap, -⟩ := (paramsOk_iff s.params).mp hp
  exact ⟨hp, hdiv, hcap, hsink⟩

theorem State.Inv.exec {i : Instr} {s t : State} (hs : s.Inv) (h : exec i s = .next t) : t.Inv := by
  rcases exec_cases i s with ⟨-, l, e⟩ | ⟨-, l, d, -, e⟩ | ⟨-, e⟩ | ⟨-, e⟩ | ⟨b, -, e⟩ | ⟨rfl, -⟩ | ⟨-, e⟩
  · obtain rfl := next_unique e h; exact hs
  · obtain rfl := next_unique e h
    exact hs.congr (s.writeAt_params l d) (s.writeAt_sampleTick l d) (s.writeAt_buf l d) (s.writeAt_sink l d)
  · obtain rfl := next_unique e h
    exact State.Inv.sampleStep (s := tickChannels s) hs
  · obtain rfl := next_unique e h; exact hs.flush
  · obtain rfl := next_unique e h; exact hs
  · rcases exec_reset_cases s with ⟨-, e⟩ | ⟨-, e⟩
    · obtain rfl := next_unique e h; exact hs.resetFields
    · obtain rfl := next_unique e h; exact hs.flush.resetFields
  · exact nomatch e.symm.trans h

/-- A tuple in range has its counters in the invariant's ranges. -/
theorem State.Inv.restoreFields {x : Snapshot} {s : State} (hs : s.Inv)
    (hok : snapshotOk s.params x = true) : (restoreFields x s).Inv := by
  obtain ⟨hp, -, -, hsink⟩ := hs
  obtain ⟨-, -, ⟨hnonneg, htick⟩, ⟨-, hcap⟩, hcount, -⟩ := (snapshotOk_iff s.params x).mp hok
  have hlength : (Machine.restoreFields x s).bufCount = x.frames.length := List.length_map ..
  refine ⟨hp, ?_, ?_, hsink⟩
  · exact (Int.toNat_lt hnonneg).mpr htick
  · rw [hlength]
    exact Int.ofNat_lt.mp (hcount ▸ hcap)

/-- The power-on state of parameters within R8, whatever waits, with a sink's record that is well shaped. -/
theorem inv_powerOn {p : Params} (hp : paramsOk p = true) {inputs : List Input} {sink : List HandOff}
    (hsink : ∀ h ∈ sink, h.Ok p) : State.Inv { State.powerOn p with inputs := inputs, sink := sink } := by
  obtain ⟨hdiv, hcap, -⟩ := (paramsOk_iff p).mp hp
  exact ⟨hp, hdiv, hcap, hsink⟩

theorem State.Inv.deliver {x : Input} {s t : State} (hs : s.Inv) (h : deliver x s = .next t) : t.Inv := by
  obtain ⟨i, hi⟩ | rfl | ⟨y, hok, rfl⟩ | ⟨hp, rfl⟩ := deliver_next_cases h
  · exact hs.exec hi
  · exact hs
  · exact hs.restoreFields hok
  · obtain ⟨-, -, -, hsink⟩ := hs
    exact inv_powerOn hp hsink

/-- Settles O56: an idle step, then a step of any input. -/
theorem stepKeepsInvariant : Obligations.StepKeepsInvariant := by
  intro s t hs h
  rcases step_cases s with ⟨-, e⟩ | ⟨x, rest, -, e⟩
  · obtain rfl := next_unique e h; exact hs
  · exact State.Inv.deliver (s := s.accept rest) hs (e.symm.trans h)

/-- Settles O57: the open parameters are within R8. -/
theorem resetMeetsInvariant : Obligations.ResetMeetsInvariant :=
  inv_powerOn (inputs := []) (sink := []) paramsOk_config nofun

end Sys2Proof.Machine
end

section
/-! PROOFS. The channel's arithmetic (40_lfsr_channel.md R131 to R137): the feedback bit as a parity, the saturated
Output updates, and the register that is stuck at 0. -/

namespace Sys2Proof.Machine

/-- One round of the feedback loop. -/
theorem ite_xor (p f b : Bool) : (if p then f ^^ b else f) = (f ^^ (p && b)) := by
  cases p <;> simp

/-- Settles O25: the eight rounds written out, each as in ite_xor. -/
theorem feedbackIsTapParity : Obligations.FeedbackIsTapParity := by
  refine fun sr fe => ⟨?_, feedback_zero_mask sr, feedback_zero_register fe⟩
  simp only [feedback, taps, List.zipIdx_cons, List.zipIdx_nil, List.foldl_cons, List.foldl_nil, ite_xor,
    Bool.false_xor, Nat.reduceAdd]

/-- Settles O27: both updates store a saturated number and nothing else. -/
theorem outputUpdatesSaturate : Obligations.OutputUpdatesSaturate := fun _ =>
  ⟨sat8_toInt _, sat8_toInt _, rfl, rfl⟩

/-! ### A register of 0 (R137) -/

theorem Channel.clock_volume (k : Channel) : k.clock.volume = k.volume := by
  obtain ⟨o, h⟩ := k.clock_eq
  rw [h]

theorem Channel.clock_control (k : Channel) : k.clock.control = k.control := by
  obtain ⟨o, h⟩ := k.clock_eq
  rw [h]

theorem Channel.clock_of_zero_register {k : Channel} (h : k.shiftRegister = 0) :
    k.clock.shiftRegister = 0 :=
  (clockShiftsThenUpdates k).1.trans (lfsrShift_of_zero_register h)

/-- Bit 0 of the shifted register is 0, so both modes take the subtract branch. -/
theorem Channel.clock_output_of_zero_register {k : Channel} (h : k.shiftRegister = 0) :
    k.clock.output.toInt = min 127 (max (-128)
      (if k.control.getLsbD 5 then k.output.toInt - k.volume.toInt else -k.volume.toInt)) := by
  obtain ⟨-, hout, -⟩ := clockShiftsThenUpdates k
  obtain ⟨hint, hdir, -, -⟩ := outputUpdatesSaturate k.lfsrShift
  have hbit : ¬ k.lfsrShift.shiftRegister.getLsbD 0 = true := by
    rw [lfsrShift_of_zero_register h]
    decide
  rw [if_neg hbit] at hint hdir
  by_cases hmode : k.control.getLsbD 5 = true
  · rw [hout, if_pos hmode, if_pos hmode]; exact hint
  · rw [hout, if_neg hmode, if_neg hmode]; exact hdir

/-- Any number of clocks keep a register of 0, the volume and the mode. -/
theorem Channel.clock_iterate_of_zero_register {k : Channel} (h : k.shiftRegister = 0) (n : Nat) :
    (Channel.clock^[n] k).shiftRegister = 0 ∧ (Channel.clock^[n] k).volume = k.volume ∧
      (Channel.clock^[n] k).control = k.control := by
  induction n with
  | zero => exact ⟨h, rfl, rfl⟩
  | succ n ih =>
    obtain ⟨hsr, hvol, hctl⟩ := ih
    rw [Function.iterate_succ_apply']
    exact ⟨clock_of_zero_register hsr, (clock_volume _).trans hvol, (clock_control _).trans hctl⟩

/-- Settles O29: clock n + 1 finds what n clocks have kept. -/
theorem zeroShiftRegisterStaysZero : Obligations.ZeroShiftRegisterStaysZero := by
  intro k n h
  obtain ⟨hsr, hvol, hctl⟩ := Channel.clock_iterate_of_zero_register h n
  refine ⟨hsr, ?_⟩
  rw [Function.iterate_succ_apply', Channel.clock_output_of_zero_register hsr, hvol, hctl]

end Sys2Proof.Machine
end

section
/-! PROOFS. TICK and runs of TICKs (41_clock_driver.md R160 to R166): the sample step and its frame, and by iteration
the countdown of a channel and the phase of the divider. -/

namespace Sys2Proof.Machine

/-! ### One TICK (R160 to R163) -/

/-- The sample step leaves what the mix looks at. -/
theorem mix_sampleStep (s : State) : mix (sampleStep s) = mix s := by
  obtain ⟨n, b, l, h⟩ := sampleStep_eq s
  rw [h]
  exact mix_congr rfl rfl rfl

@[simp] theorem sampleStep_masterVolume (s : State) : (sampleStep s).masterVolume = s.masterVolume := by
  obtain ⟨n, b, l, h⟩ := sampleStep_eq s
  rw [h]

@[simp] theorem sampleStep_inputs (s : State) : (sampleStep s).inputs = s.inputs := by
  obtain ⟨n, b, l, h⟩ := sampleStep_eq s
  rw [h]

@[simp] theorem sampleStep_reply (s : State) : (sampleStep s).reply = s.reply := by
  obtain ⟨n, b, l, h⟩ := sampleStep_eq s
  rw [h]

@[simp] theorem appendFrame_sampleTick (s : State) (f : Frame) :
    (appendFrame s f).sampleTick = s.sampleTick := by
  obtain ⟨b, l, h⟩ := appendFrame_eq s f
  rw [h]

/-- What AppendFrame makes of the buffer and the sink (R260). -/
theorem appendFrame_output (s : State) (f : Frame) :
    if s.buf.length + 1 = s.params.bufCap then
      (appendFrame s f).buf = [] ∧ (appendFrame s f).sink = s.sink ++
        [⟨interleave (s.buf ++ [f]), frameCountOf (s.buf.length + 1), s.params.sampleRate⟩]
    else (appendFrame s f).buf = s.buf ++ [f] ∧ (appendFrame s f).sink = s.sink := by
  have hcount : (s.buf ++ [f]).length = s.buf.length + 1 := List.length_append
  rcases appendFrame_cases s f with ⟨hfull, h⟩ | ⟨hroom, h⟩
  · rw [State.bufCount] at hfull
    rw [if_pos hfull, h, ← hcount]
    exact ⟨rfl, rfl⟩
  · rw [State.bufCount] at hroom
    rw [if_neg hroom, h]
    exact ⟨rfl, rfl⟩

/-- What SampleStep makes of the divider, the buffer and the sink (R163). -/
theorem sampleStep_output (s : State) :
    if s.sampleTick + 1 = s.params.sampleDiv then
      (sampleStep s).sampleTick = 0 ∧
      if s.buf.length + 1 = s.params.bufCap then
        (sampleStep s).buf = [] ∧ (sampleStep s).sink = s.sink ++
          [⟨interleave (s.buf ++ [mix s]), frameCountOf (s.buf.length + 1), s.params.sampleRate⟩]
      else (sampleStep s).buf = s.buf ++ [mix s] ∧ (sampleStep s).sink = s.sink
    else (sampleStep s).sampleTick = s.sampleTick + 1 ∧ (sampleStep s).buf = s.buf ∧
      (sampleStep s).sink = s.sink := by
  rcases sampleStep_cases s with ⟨hdiv, h⟩ | ⟨hdiv, h⟩
  · have hmix : mix { s with sampleTick := 0 } = mix s := mix_congr rfl rfl rfl
    rw [if_pos hdiv, h, hmix]
    exact ⟨appendFrame_sampleTick _ _, appendFrame_output { s with sampleTick := 0 } (mix s)⟩
  · rw [if_neg hdiv, h]
    exact ⟨rfl, rfl, rfl⟩

/-- Settles O31: the channel steps leave the divider, the buffer and the sink to the sample step. -/
theorem tickSampleStep : Obligations.TickSampleStep := by
  refine fun s => ⟨_, exec_tick s, ?_⟩
  rw [mix_sampleStep]
  exact sampleStep_output (tickChannels s)

/-- Settles O32: what the channel steps and the sample step leave alone. -/
theorem tickLeavesSettings : Obligations.TickLeavesSettings := by
  refine fun s => ⟨_, exec_tick s, sampleStep_params _, sampleStep_masterVolume _,
    sampleStep_stereoEnabled _, sampleStep_inputs _, sampleStep_reply _, fun c => ?_⟩
  obtain ⟨n, r, o, hstep⟩ := (s.chan c).step_eq
  rw [chan_sampleStep, chan_tickChannels, hstep]
  exact ⟨rfl, rfl, rfl, rfl, rfl, rfl⟩

/-- Settles O33: what a TICK makes of a channel is its step. -/
theorem tickChannelsIndependent : Obligations.TickChannelsIndependent := by
  intro s u c h
  refine ⟨_, _, exec_tick s, exec_tick u, ?_⟩
  rw [chan_sampleStep, chan_sampleStep, chan_tickChannels, chan_tickChannels, h]

/-! ### A run of TICKs (R111) -/

/-- What a step leaves when the oldest input is a TICK. -/
def afterTick (s : State) : State := sampleStep (tickChannels (s.accept s.inputs.tail))

theorem step_of_ticks {s : State} {n : Nat} (h : s.inputs = ticks (n + 1)) :
    step s = .next (afterTick s) := by
  have hcons : s.inputs = .event (encode .tick) :: ticks n := h.trans List.replicate_succ
  have htail : s.inputs.tail = ticks n := congrArg List.tail hcons
  rw [step_of_cons hcons, afterTick, htail]
  exact congrArg (exec · _) (decode_tick 0 0)

@[simp] theorem afterTick_inputs (s : State) : (afterTick s).inputs = s.inputs.tail := sampleStep_inputs _

@[simp] theorem afterTick_params (s : State) : (afterTick s).params = s.params := sampleStep_params _

theorem afterTick_iterate_inputs {s : State} {n : Nat} (h : s.inputs = ticks n) (m : Nat) :
    (afterTick^[m] s).inputs = ticks (n - m) := by
  induction m with
  | zero => exact h
  | succ m ih =>
    rw [Function.iterate_succ_apply', afterTick_inputs, ih, ticks, List.tail_replicate, Nat.sub_sub]
    rfl

/-- The first m of n TICKs all complete. -/
theorem runSteps_ticks {s : State} {n m : Nat} (h : s.inputs = ticks n) (hm : m ≤ n) :
    runSteps m s = .next (afterTick^[m] s) := by
  induction m with
  | zero => rfl
  | succ m ih =>
    have hinputs : (afterTick^[m] s).inputs = ticks (n - (m + 1) + 1) := by
      rw [afterTick_iterate_inputs h, Nat.sub_add_eq, Nat.sub_add_cancel (Nat.sub_pos_of_lt hm)]
    rw [runSteps_succ m s _ (ih (Nat.le_of_succ_le hm)), step_of_ticks hinputs,
      Function.iterate_succ_apply']

/-! ### The countdown of a channel (R164) -/

/-- A run of TICKs steps each channel by itself. -/
theorem chan_afterTick_iterate (s : State) (c : ChanIx) (m : Nat) :
    (afterTick^[m] s).chan c = Channel.step^[m] (s.chan c) := by
  induction m with
  | zero => rfl
  | succ m ih =>
    rw [Function.iterate_succ_apply', Function.iterate_succ_apply', ← ih, afterTick, chan_sampleStep,
      chan_tickChannels]
    rfl

theorem Channel.step_of_counter_ne_zero {k : Channel} (hon : k.enabled = true) (h : k.counter ≠ 0) :
    k.step = { k with counter := k.counter - 1 } := by
  rcases k.step_cases with ⟨hoff, -⟩ | ⟨-, -, e⟩ | ⟨-, hzero, -⟩
  · exact absurd (hon.symm.trans hoff) nofun
  · exact e
  · exact absurd hzero h

theorem Channel.step_of_counter_zero {k : Channel} (hon : k.enabled = true) (h : k.counter = 0) :
    k.step = ({ k with counter := k.backupValue } : Channel).clock := by
  rcases k.step_cases with ⟨hoff, -⟩ | ⟨-, hne, -⟩ | ⟨-, -, e⟩
  · exact absurd (hon.symm.trans hoff) nofun
  · exact absurd h hne
  · exact e

/-- Up to Counter steps only count down. -/
theorem Channel.step_iterate_counts {k : Channel} (hon : k.enabled = true) {m : Nat}
    (hm : m ≤ k.counter.toNat) :
    Channel.step^[m] k = { k with counter := BitVec.ofNat 8 (k.counter.toNat - m) } := by
  have hlt := k.counter.isLt
  induction m with
  | zero => simp
  | succ m ih =>
    have hne : BitVec.ofNat 8 (k.counter.toNat - m) ≠ 0 := by bv_omega
    have hsub : BitVec.ofNat 8 (k.counter.toNat - m) - 1 = BitVec.ofNat 8 (k.counter.toNat - (m + 1)) := by
      bv_omega
    rw [Function.iterate_succ_apply', ih (Nat.le_of_succ_le hm),
      step_of_counter_ne_zero (k := { k with counter := BitVec.ofNat 8 (k.counter.toNat - m) }) hon hne, hsub]

/-- One step more finds Counter at 0. -/
theorem Channel.step_iterate_clocks {k : Channel} (hon : k.enabled = true) :
    Channel.step^[k.counter.toNat + 1] k = ({ k with counter := k.backupValue } : Channel).clock := by
  rw [Function.iterate_succ_apply', step_iterate_counts hon le_rfl, Nat.sub_self]
  exact step_of_counter_zero hon rfl

/-- Settles O34: the run's TICKs are the channel's steps. -/
theorem clockAfterCounterTicks : Obligations.ClockAfterCounterTicks := by
  refine fun s c hon hinputs => ⟨fun m hm => ⟨_, runSteps_ticks hinputs (Nat.le_succ_of_le hm), ?_⟩,
    ⟨_, runSteps_ticks hinputs le_rfl, ?_⟩⟩
  · rw [chan_afterTick_iterate, Channel.step_iterate_counts hon hm]
  · rw [chan_afterTick_iterate, Channel.step_iterate_clocks hon]

/-! ### The phase of the divider (R164, R336) -/

theorem emitted_afterTick (s : State) : ∃ f, emitted (afterTick s) =
    emitted s ++ interleave (if s.sampleTick + 1 = s.params.sampleDiv then [f] else []) :=
  ⟨_, emitted_sampleStep (tickChannels (s.accept s.inputs.tail))⟩

theorem afterTick_sampleTick (s : State) : (afterTick s).sampleTick =
    if s.sampleTick + 1 = s.params.sampleDiv then 0 else s.sampleTick + 1 := by
  have h := sampleStep_output (tickChannels (s.accept s.inputs.tail))
  change if s.sampleTick + 1 = s.params.sampleDiv then _ else _ at h
  by_cases hdiv : s.sampleTick + 1 = s.params.sampleDiv
  · rw [if_pos hdiv] at h ⊢; exact h.1
  · rw [if_neg hdiv] at h ⊢; exact h.1

/-- Before the divider comes round, a run of TICKs counts and produces nothing. -/
theorem afterTick_iterate_of_lt {s : State} (h0 : s.sampleTick = 0) {m : Nat} (hm : m < s.params.sampleDiv) :
    (afterTick^[m] s).sampleTick = m ∧ (afterTick^[m] s).params = s.params ∧
      emitted (afterTick^[m] s) = emitted s := by
  induction m with
  | zero => exact ⟨h0, rfl, rfl⟩
  | succ m ih =>
    obtain ⟨htick, hparams, hemitted⟩ := ih (Nat.lt_of_succ_lt hm)
    have hne : (afterTick^[m] s).sampleTick + 1 ≠ (afterTick^[m] s).params.sampleDiv := by
      rw [htick, hparams]; exact hm.ne
    obtain ⟨f, hf⟩ := emitted_afterTick (afterTick^[m] s)
    rw [Function.iterate_succ_apply', afterTick_sampleTick, afterTick_params, hf, if_neg hne, if_neg hne,
      htick, hparams, hemitted, interleave_nil, List.append_nil]
    exact ⟨rfl, rfl, rfl⟩

/-- Settles O35: the last of the TICKs finds the divider one short of coming round. -/
theorem oneFramePerSampleDiv : Obligations.OneFramePerSampleDiv := by
  intro s hpos h0 hinputs
  refine ⟨fun m hm => ?before, ?last⟩
  case before =>
    obtain ⟨htick, -, hemitted⟩ := afterTick_iterate_of_lt h0 hm
    exact ⟨_, runSteps_ticks hinputs hm.le, htick, hemitted⟩
  case last =>
    obtain ⟨d, hd⟩ : ∃ d, s.params.sampleDiv = d + 1 := ⟨_, (Nat.sub_add_cancel hpos).symm⟩
    obtain ⟨htick, hparams, hemitted⟩ := afterTick_iterate_of_lt h0 ((Nat.lt_succ_self d).trans_eq hd.symm)
    have hdiv : (afterTick^[d] s).sampleTick + 1 = (afterTick^[d] s).params.sampleDiv := by
      rw [htick, hparams, hd]
    obtain ⟨f, hf⟩ := emitted_afterTick (afterTick^[d] s)
    refine ⟨_, f, runSteps_ticks hinputs le_rfl, ?_, ?_⟩
    · rw [hd, Function.iterate_succ_apply', afterTick_sampleTick, if_pos hdiv]
    · rw [hd, Function.iterate_succ_apply', hf, if_pos hdiv, hemitted]
      rfl

end Sys2Proof.Machine
end

section
/-! PROOFS. The mixer (42_stereo_mixer.md R181 to R185): each side's sum as a sum over the channels, and the bounds of
every stage. -/

namespace Sys2Proof.Machine

/-! ### The sums (R181) -/

/-- A channel's term on the side whose attenuation is `atten`: 0 if the channel is disabled. -/
def Channel.term (atten : Channel → Nibble) (k : Channel) : Int :=
  if k.control.getLsbD 7 then k.output.toInt * (atten k).toNat / 4 else 0

/-- One side's sum over the channels 0 to 3. -/
def sideSum (atten : Channel → Nibble) (s : State) : Int :=
  ((List.finRange 4).map fun c => (s.chan (BitVec.ofFin c)).term atten).sum

theorem channelTerm_eq (o : Byte) (a : Nibble) : channelTerm o a = o.toInt * a.toNat / 4 :=
  asr_eq_ediv _ 2

theorem mixAdd_eq (acc : Int × Int) (k : Channel) :
    mixAdd acc k = (acc.1 + k.term Channel.leftAtten, acc.2 + k.term Channel.rightAtten) := by
  by_cases hon : k.control.getLsbD 7 = true
  · rw [Channel.term, Channel.term, if_pos hon, if_pos hon, ← channelTerm_eq, ← channelTerm_eq]
    exact if_pos hon
  · rw [Channel.term, Channel.term, if_neg hon, if_neg hon, Int.add_zero, Int.add_zero]
    exact if_neg hon

theorem foldl_mixAdd (l : List Channel) (acc : Int × Int) :
    l.foldl mixAdd acc = (acc.1 + (l.map (Channel.term Channel.leftAtten)).sum,
      acc.2 + (l.map (Channel.term Channel.rightAtten)).sum) := by
  induction l generalizing acc with
  | nil => simp
  | cons k l ih => simp [ih, mixAdd_eq, Int.add_assoc]

theorem ch_toList (s : State) : s.ch.toList = (List.finRange 4).map fun c => s.chan (BitVec.ofFin c) := by
  apply List.ext_getElem
  · simp
  · intro i hi hi'
    simp [State.chan]

theorem mixSums_eq (s : State) :
    mixSums s = (sideSum Channel.leftAtten s, sideSum Channel.rightAtten s) := by
  rw [mixSums, foldl_mixAdd, ch_toList, List.map_map, List.map_map, Int.zero_add, Int.zero_add]
  rfl

/-- Settles O36: the loop's two accumulators are the two sums. -/
theorem mixSumsFormula : Obligations.MixSumsFormula := fun s =>
  ⟨congrArg Prod.fst (mixSums_eq s), congrArg Prod.snd (mixSums_eq s)⟩

theorem sideSum_eq_add (atten : Channel → Nibble) (s : State) :
    sideSum atten s = (s.chan 0).term atten + ((s.chan 1).term atten +
      ((s.chan 2).term atten + ((s.chan 3).term atten + 0))) := rfl

theorem Channel.term_of_disabled {k : Channel} (h : k.control.getLsbD 7 = false) (atten : Channel → Nibble) :
    k.term atten = 0 :=
  if_neg (ne_true_of_eq_false h)

theorem sideSum_setChan_of_disabled {s : State} {c : ChanIx} {k : Channel}
    (hs : (s.chan c).control.getLsbD 7 = false) (hk : k.control.getLsbD 7 = false)
    (atten : Channel → Nibble) : sideSum atten (s.setChan c k) = sideSum atten s := by
  have hterm : ∀ e, ((s.setChan c k).chan e).term atten = (s.chan e).term atten := fun e => by
    by_cases he : e = c
    · subst he
      rw [State.chan_setChan_self, Channel.term_of_disabled hs, Channel.term_of_disabled hk]
    · rw [State.chan_setChan_of_ne s k he]
  simp only [sideSum, hterm]

/-- Settles O41: both sums are the same, and the later stages see no channel. -/
theorem disabledChannelNotMixed : Obligations.DisabledChannelNotMixed := by
  intro s c k hs hk
  have hsums : mixSums (s.setChan c k) = mixSums s := by
    rw [mixSums_eq, mixSums_eq, sideSum_setChan_of_disabled hs hk, sideSum_setChan_of_disabled hs hk]
  rw [mix, mix, mixSides, mixSides, hsums]
  rfl

/-! ### The master volume and the fold (R182, R183) -/

theorem masterScale_eq (mv : Byte) (x : Int) : masterScale mv x = x * (mv.toNat + 1) / 16 :=
  asr_eq_ediv _ 4

/-- The average, truncated toward zero. -/
theorem tdiv2_bounds (x : Int) :
    if 0 ≤ x then 2 * tdiv2 x ≤ x ∧ x < 2 * tdiv2 x + 2 else x ≤ 2 * tdiv2 x ∧ 2 * tdiv2 x - 2 < x := by
  rw [tdiv2]
  split_ifs with h
  · rw [Int.tdiv_eq_ediv_of_nonneg h]
    omega
  · have hneg : Int.tdiv x 2 = -(-x / 2) := by
      rw [← Int.tdiv_eq_ediv_of_nonneg (by omega), Int.neg_tdiv, Int.neg_neg]
    rw [hneg]
    omega

/-- Settles O37: the floor of the one stage and the truncation of the other. -/
theorem masterVolumeAndFoldStages : Obligations.MasterVolumeAndFoldStages := by
  refine ⟨fun s => rfl, fun mv x => ?floor, fun x => ?sixteenth, fun mv mv' x hle hx => ?louder,
    fun l r => rfl, fun l r => ⟨tdiv2 (l + r), rfl, tdiv2_bounds (l + r)⟩⟩
  case floor =>
    rw [masterScale_eq]
    omega
  case sixteenth =>
    rw [masterScale_eq]
    simp
  case louder =>
    have hnat : (mv.toNat : Int) ≤ mv'.toNat := Int.ofNat_le.mpr hle
    rw [masterScale_eq, masterScale_eq]
    exact Int.ediv_le_ediv (by decide) (Int.mul_le_mul_of_nonneg_left (by omega) hx)

/-! ### The bounds of every stage (R185) -/

/-- A product of a factor in `lo..hi` around 0 and one in `0..m`. -/
theorem mul_bounds {lo hi m x y : Int} (hlo : lo ≤ 0) (hhi : 0 ≤ hi) (hx : lo ≤ x ∧ x ≤ hi)
    (hy : 0 ≤ y ∧ y ≤ m) : lo * m ≤ x * y ∧ x * y ≤ hi * m := by
  constructor <;> nlinarith

theorem Channel.term_bounds (atten : Channel → Nibble) (k : Channel) :
    -480 ≤ k.term atten ∧ k.term atten ≤ 476 := by
  have hatten := (atten k).isLt
  have hmul := mul_bounds (m := 15) (by decide) (by decide) (sext8_bounds k.output)
    (y := (atten k).toNat) (by omega)
  rw [sext8] at hmul
  rw [Channel.term]
  split_ifs <;> omega

theorem sideSum_bounds (atten : Channel → Nibble) (s : State) :
    -1920 ≤ sideSum atten s ∧ sideSum atten s ≤ 1904 := by
  have h0 := (s.chan 0).term_bounds atten
  have h1 := (s.chan 1).term_bounds atten
  have h2 := (s.chan 2).term_bounds atten
  have h3 := (s.chan 3).term_bounds atten
  rw [sideSum_eq_add]
  omega

theorem masterScale_bounds (mv : Byte) {x : Int} (h : -1920 ≤ x ∧ x ≤ 1904) :
    -30720 ≤ masterScale mv x ∧ masterScale mv x ≤ 30464 := by
  have hmv := mv.isLt
  have hmul := mul_bounds (m := 256) (by decide) (by decide) h (y := mv.toNat + 1) (by omega)
  rw [masterScale_eq]
  omega

theorem tdiv2_add_bounds {lo hi l r : Int} (hl : lo ≤ l ∧ l ≤ hi) (hr : lo ≤ r ∧ r ≤ hi) :
    lo ≤ tdiv2 (l + r) ∧ tdiv2 (l + r) ≤ hi := by
  have h := tdiv2_bounds (l + r)
  split_ifs at h <;> omega

/-- The fold keeps both sides in any range they share. -/
theorem foldDown_bounds {lo hi l r : Int} (stereo : Bool) (hl : lo ≤ l ∧ l ≤ hi) (hr : lo ≤ r ∧ r ≤ hi) :
    (lo ≤ (foldDown stereo (l, r)).1 ∧ (foldDown stereo (l, r)).1 ≤ hi) ∧
      lo ≤ (foldDown stereo (l, r)).2 ∧ (foldDown stereo (l, r)).2 ≤ hi := by
  cases stereo with
  | true => exact ⟨hl, hr⟩
  | false => exact ⟨tdiv2_add_bounds hl hr, tdiv2_add_bounds hl hr⟩

theorem mixSides_eq (s : State) : mixSides s = foldDown s.stereoEnabled
    (masterScale s.masterVolume (sideSum Channel.leftAtten s),
      masterScale s.masterVolume (sideSum Channel.rightAtten s)) := by
  rw [mixSides, mixSums_eq]

/-- Settles O39, stage by stage. -/
theorem mixStageBounds : Obligations.MixStageBounds := by
  intro s
  have hl := sideSum_bounds Channel.leftAtten s
  have hr := sideSum_bounds Channel.rightAtten s
  have hml := masterScale_bounds s.masterVolume hl
  have hmr := masterScale_bounds s.masterVolume hr
  obtain ⟨hfl, hfr⟩ := foldDown_bounds s.stereoEnabled hml hmr
  rw [mixSums_eq, mixSides_eq]
  refine ⟨fun x hx => ?_, fun x hx => ?_⟩
  · obtain rfl | rfl := hx
    · exact ⟨hl.1, hl.2, hml⟩
    · exact ⟨hr.1, hr.2, hmr⟩
  · obtain rfl | rfl := hx
    · omega
    · omega

/-! ### Full scale (R185) -/

/-- The fold keeps a value that both sides share. -/
theorem foldDown_same (stereo : Bool) (x : Int) : foldDown stereo (x, x) = (x, x) := by
  have havg : tdiv2 (x + x) = x := by
    have h := tdiv2_bounds (x + x)
    split_ifs at h <;> omega
  cases stereo with
  | true => rfl
  | false => simp only [foldDown, havg]; rfl

/-- Four enabled channels with one Output and attenuation 15. -/
theorem sideSum_of_all {s : State} {o : Byte} {atten : Channel → Nibble}
    (h : ∀ c, (s.chan c).control.getLsbD 7 = true ∧ (s.chan c).output = o ∧ atten (s.chan c) = 15) :
    sideSum atten s = 4 * (o.toInt * 15 / 4) := by
  have hterm : ∀ c, (s.chan c).term atten = o.toInt * 15 / 4 := fun c => by
    obtain ⟨hon, hout, hatten⟩ := h c
    rw [Channel.term, if_pos hon, hout, hatten]
    rfl
  rw [sideSum_eq_add, hterm, hterm, hterm, hterm]
  omega

/-- Settles O40: both sides carry the same sum, so the fold does not matter, and the gain saturates. -/
theorem mixExtremesClamp : Obligations.MixExtremesClamp := by
  intro s o ho h hmv
  have hleft : sideSum Channel.leftAtten s = 4 * (o.toInt * 15 / 4) :=
    sideSum_of_all fun c => by obtain ⟨hon, hout, hl, -⟩ := h c; exact ⟨hon, hout, hl⟩
  have hright : sideSum Channel.rightAtten s = 4 * (o.toInt * 15 / 4) :=
    sideSum_of_all fun c => by obtain ⟨hon, hout, -, hr⟩ := h c; exact ⟨hon, hout, hr⟩
  rw [mix_left, mix_right, mixSides_eq, hleft, hright, foldDown_same, hmv, gainClamp_toInt]
  obtain rfl | rfl := ho
  · decide
  · decide

end Sys2Proof.Machine
end
